-- ==== Sys2Proof/Word.lean ====
section
/-! DEFINITION. The word types of the block (spec/00_scope.md R6, spec/10_state.md R38 to R43). -/

namespace Sys2Proof

/-- A bus data word and every register: `DATA_W` = 32 bits (R6, R38). -/
abbrev Word := BitVec 32

/-- A block-local byte address: `ADDR_W` = 28 bits (R6, R60). -/
abbrev BusAddr := BitVec 28

/-- An input intensity sample: `CODE_W` = 8 bits, 0 to 255 (R6, R40). -/
abbrev Code := BitVec 8

/-- One cell of the working buffer: `CELL_W` = 18 bits, two's complement (R6, R41). -/
abbrev WorkCell := BitVec 18

/-- One element of the Binary Matrix (R42). -/
abbrev PixelBit := BitVec 1

/-- One byte of the packed memory (R43). -/
abbrev Byte := BitVec 8

end Sys2Proof
end

