-- ==== Sys2Proof/Syntax.lean ====
section
/-! DEFINITION. The ten commands (spec/30_encoding.md R93), the fields of a command word (R91), the host's
transactions (spec/20_memory.md R60) and the statements of a host program (spec/30_encoding.md R99, R100). -/

namespace Sys2Proof

/-- The ten legal commands, one constructor for each row of spec/opcode_table.json (R93). A command has no
operand field (R96): its operands are the registers and memories. -/
inductive Instr where
  /-- `NOP`, 0x00000000 (R177). -/
  | nop
  /-- `DITHER.ORD`, 0x01000000 (R138). -/
  | ditherOrd
  /-- `DITHER.EXT`, 0x01000001 (R139). -/
  | ditherExt
  /-- `PACK.DIR`, 0x02000000 (R163). -/
  | packDir
  /-- `PACK.INV`, 0x02000002 (R164). -/
  | packInv
  /-- `RUN.ORD.DIR`, 0x03000000 (R183). -/
  | runOrdDir
  /-- `RUN.EXT.DIR`, 0x03000001 (R184). -/
  | runExtDir
  /-- `RUN.ORD.INV`, 0x03000002 (R185). -/
  | runOrdInv
  /-- `RUN.EXT.INV`, 0x03000003 (R186). -/
  | runExtInv
  /-- `SRST`, 0x80000000 (R179). -/
  | srst
deriving DecidableEq, Repr

/-- The fields of format `C` (R91). -/
structure CommandFields where
  /-- bits 31:24 -/
  opcode : BitVec 8
  /-- bits 23:2 -/
  zero : BitVec 22
  /-- bit 1, the polarity of the pack stage -/
  p : Bool
  /-- bit 0, the method of the dither stage -/
  m : Bool
deriving DecidableEq, Repr

/-- The method of the dither stage (R91, R92). -/
inductive Method where
  /-- M = 0: ordered, Floyd-Steinberg-style. -/
  | ord
  /-- M = 1: extended, Atkinson-style. -/
  | ext
deriving DecidableEq, Repr

/-- The polarity of the pack stage (R91, R92, R162). -/
inductive Polarity where
  /-- P = 0: the stored bit is the matrix bit. -/
  | dir
  /-- P = 1: the stored bit is its complement. -/
  | inv
deriving DecidableEq, Repr

/-- What the environment does next: the host's two transactions (R60), the platform's `Reset` (R250), a turn
given to the engine (R12), and the host's `WAIT` (R100). A list of these is one total order of host
transactions and engine steps (R75). -/
inductive Event where
  /-- `HostRead(addr)` -/
  | hostRead (addr : BusAddr)
  /-- `HostWrite(addr, data)` -/
  | hostWrite (addr : BusAddr) (data : Word)
  /-- The platform asserts `Reset`. -/
  | platformReset
  /-- The scheduler gives the engine one step before the next transaction. -/
  | engineTurn
  /-- `WAIT`: the host polls `STATUS` until BUSY is 0. -/
  | wait
deriving DecidableEq, Repr

/-- The seventeen register locations of region 0, in the order of their offsets (R38). -/
inductive Reg where
  | id | cmd | status | ien | width | height | stride | plen | curx | cury
  | errcmd | erraddr | cscin | csclin | cscsrgb | cap | actcmd
deriving DecidableEq, Repr

/-- What a legal bus address names (R63). -/
inductive Target where
  /-- A register of region 0. -/
  | reg (r : Reg)
  /-- `IMEM[i]`, region 1. -/
  | imem (i : Nat)
  /-- `BMEM[i]`, region 2. -/
  | bmem (i : Nat)
  /-- `WBUF[i]`, region 3. -/
  | wbuf (i : Nat)
  /-- Word `j` of `PMEM`, region 4. -/
  | pmem (j : Nat)
deriving DecidableEq, Repr

/-- A statement of a host program, without the value a line expects (R99, R100). -/
inductive HostStmt where
  /-- `WR addr, value` -/
  | wr (addr : BusAddr) (value : Word)
  /-- `RD addr` -/
  | rd (addr : BusAddr)
  /-- `CMD mnemonic` -/
  | cmd (i : Instr)
  /-- `CMD literal` -/
  | cmdWord (w : Word)
  /-- `SETDIM w, h` -/
  | setDim (w h : Word)
  /-- `LOADIMG c0, c1, ...` -/
  | loadImg (codes : List Word)
  /-- `LOADBIN b0, b1, ...` -/
  | loadBin (bits : List Word)
  /-- `WAIT` -/
  | wait
  /-- `CLRSTAT` -/
  | clrStat
deriving DecidableEq, Repr

end Sys2Proof
end

