-- ==== Sys2Proof/WellFormed.lean ====
section
/-! DEFINITION. Which fields of a command word are legal (spec/30_encoding.md R91, R97), one check for each
way a word is illegal. -/

namespace Sys2Proof

/-- The ZERO field is 0 in every legal word (R91, R97). -/
def CommandFields.zeroOk (f : CommandFields) : Bool := f.zero == 0#22

/-- The opcode is one of the five of the opcode map (R93, R97). -/
def CommandFields.opcodeOk (f : CommandFields) : Bool :=
  f.opcode == 0x00#8 || f.opcode == 0x01#8 || f.opcode == 0x02#8 || f.opcode == 0x03#8 || f.opcode == 0x80#8

/-- P is 0 in a command without a pack stage (R91): `NOP`, `DITHER` and `SRST` (R97). -/
def CommandFields.polarityOk (f : CommandFields) : Bool :=
  !f.p || f.opcode == 0x02#8 || f.opcode == 0x03#8

/-- M is 0 in a command without a dither stage (R91): `NOP`, `PACK` and `SRST` (R97). -/
def CommandFields.methodOk (f : CommandFields) : Bool :=
  !f.m || f.opcode == 0x01#8 || f.opcode == 0x03#8

/-- The fields of a legal command word: all four checks hold (R91, R97). -/
def CommandFields.wf (f : CommandFields) : Bool :=
  f.zeroOk && f.opcodeOk && f.polarityOk && f.methodOk

/-- The fields of each command, from the opcode map (R93). -/
def Instr.fields : Instr → CommandFields
  | .nop => ⟨0x00#8, 0#22, false, false⟩
  | .ditherOrd => ⟨0x01#8, 0#22, false, false⟩
  | .ditherExt => ⟨0x01#8, 0#22, false, true⟩
  | .packDir => ⟨0x02#8, 0#22, false, false⟩
  | .packInv => ⟨0x02#8, 0#22, true, false⟩
  | .runOrdDir => ⟨0x03#8, 0#22, false, false⟩
  | .runExtDir => ⟨0x03#8, 0#22, false, true⟩
  | .runOrdInv => ⟨0x03#8, 0#22, true, false⟩
  | .runExtInv => ⟨0x03#8, 0#22, true, true⟩
  | .srst => ⟨0x80#8, 0#22, false, false⟩

/-- A command is well formed when its fields are those of a legal word. A command has no operand (R96), so
this holds of every constructor. -/
def Instr.wf (i : Instr) : Bool := i.fields.wf

end Sys2Proof
end

