-- ==== Sys2Proof/Decode.lean ====
section
/-! DEFINITION. The decoder, total on all 2^32 words and rejecting by name (spec/30_encoding.md R95, R97), the
encoder (R91, R93), and the host's view of the opcode table. -/

namespace Sys2Proof

/-- Why a word is illegal (R97). A word that breaks several rules is reported under the first of them in the
order of the decoder's tests (R95); the machine's answer is ERR_CMD for each (R222). -/
inductive DecodeError where
  /-- ZERO is not 0. -/
  | zeroField
  /-- OPCODE is none of 0x00, 0x01, 0x02, 0x03, 0x80. -/
  | opcode
  /-- P is 1 in a command without a pack stage. -/
  | polarity
  /-- M is 1 in a command without a dither stage. -/
  | method
deriving DecidableEq, Repr

/-- The fields of format `C` (R91): `w[31:24]`, `w[23:2]`, `w[1]` and `w[0]`, bit 0 the least significant (R7). -/
def splitWord (w : Word) : CommandFields where
  opcode := w.extractLsb' 24 8
  zero := w.extractLsb' 2 22
  p := w.getLsbD 1
  m := w.getLsbD 0

/-- The word with the given fields, a ++ b having a in the more significant bits (R7, R91). -/
def joinFields (f : CommandFields) : Word :=
  f.opcode ++ f.zero ++ BitVec.ofBool f.p ++ BitVec.ofBool f.m

/-- `Decode(w)` (R95): the tests stand in the rule's order. -/
def decode (w : Word) : Except DecodeError Instr :=
  if w = 0x80000000#32 then .ok .srst
  else if (splitWord w).zero ≠ 0#22 then .error .zeroField
  else if (splitWord w).opcode = 0x00#8 then
    if (splitWord w).p then .error .polarity
    else if (splitWord w).m then .error .method
    else .ok .nop
  else if (splitWord w).opcode = 0x01#8 then
    if (splitWord w).p then .error .polarity
    else .ok (if (splitWord w).m then .ditherExt else .ditherOrd)
  else if (splitWord w).opcode = 0x02#8 then
    if (splitWord w).m then .error .method
    else .ok (if (splitWord w).p then .packInv else .packDir)
  else if (splitWord w).opcode = 0x03#8 then
    .ok (if (splitWord w).p then (if (splitWord w).m then .runExtInv else .runOrdInv)
      else (if (splitWord w).m then .runExtDir else .runOrdDir))
  else if (splitWord w).opcode = 0x80#8 then
    .error (if (splitWord w).p then .polarity else .method)
  else .error .opcode

/-- The one word of a command (R93): its fields laid out in format `C`. -/
def encode (i : Instr) : Word := joinFields i.fields

/-- Bit 24 of a command word: the command has a dither stage (R94). -/
def hasDither (w : Word) : Bool := w.getLsbD 24

/-- Bit 25 of a command word: the command has a pack stage (R94). -/
def hasPack (w : Word) : Bool := w.getLsbD 25

/-- Bit 0 of a command word, M (R91). -/
def methodOf (w : Word) : Method := if w.getLsbD 0 then .ext else .ord

/-- Bit 1 of a command word, P (R91). -/
def polarityOf (w : Word) : Polarity := if w.getLsbD 1 then .inv else .dir

/-- The command that the decoder reads from a row's bits. A command is one 32-bit word (R90), stored in no
memory and so with no byte order (R71): the bits above `nbits` are 0. -/
def decodeTableWord (nbits w : Nat) : Option Instr :=
  if nbits ≤ 32 then
    match decode (BitVec.ofNat 32 (w % 2 ^ nbits)) with
    | .ok i => some i
    | .error _ => none
  else none

end Sys2Proof
end

