-- ==== Sys2Proof/Config.lean ====
section
/-! DEFINITION. The constants of the block (spec/00_scope.md R6) and the free values: what the spec leaves
without a value (spec/93_implementation_defined.md U1). -/

namespace Sys2Proof

/-- `ONE`: the working-unit value of intensity 1.0 (R6). -/
def Config.one : Int := 65280

/-- `HALF` = `ONE / 2`: the working-unit value of the threshold 0.5 (R6). -/
def Config.half : Int := 32640

/-- The identification word `ID`, ASCII "DE01" (R1, R25). -/
def Config.idWord : Word := 0x44453031#32

/-- The five write-1-to-clear flags of `STATUS`, which are also the writable bits of `IEN` (R27, R28). -/
def Config.flagMask : Word := 0x00000F02#32

/-- Every defined bit of `STATUS`; the others are reserved and read 0 (R27). -/
def Config.statusMask : Word := 0x00000F0F#32

/-- The 8-bit code that `IMEM` element `i` holds after the hardware reset number `epoch`, until something
writes it. FREE VALUE (U1, assumption log 1): nothing constrains it. -/
opaque Config.freeImem (epoch i : Nat) : Code

/-- As `Config.freeImem`, for the 18-bit cell `i` of `WBUF` (U1, assumption log 1). -/
opaque Config.freeWbuf (epoch i : Nat) : WorkCell

/-- As `Config.freeImem`, for the bit `i` of `BMEM` (U1, assumption log 1). -/
opaque Config.freeBmem (epoch i : Nat) : PixelBit

/-- As `Config.freeImem`, for the byte `i` of `PMEM` (U1, assumption log 1). -/
opaque Config.freePmem (epoch i : Nat) : Byte

end Sys2Proof
end

