-- ==== Sys2Proof/Machine/State.lean ====
section
/-! DEFINITION. The state of the block (spec/10_state.md R20), the reasons a step can stop, and the state after
hardware reset (R48). -/

namespace Sys2Proof.Machine

/-- A memory: its written elements as (index, value) pairs, indices strictly rising. An element that is not
listed has not been written since the last hardware reset and reads as a free value (assumption log 1). `Memory 8`
is a list of `Host.Cell`; WBUF's and BMEM's elements are 18 bits and one bit (R41, R42). -/
abbrev Memory (w : Nat) := List (Nat × BitVec w)

/-- `STATUS.PHASE` (R27). -/
inductive Phase where
  | idle | seed | diffuse | pack
deriving DecidableEq, Repr

/-- The four error conditions (R220). -/
inductive ErrKind where
  /-- ERR_DIM, bit 8 (R221). -/
  | dim
  /-- ERR_CMD, bit 9 (R222). -/
  | cmd
  /-- ERR_BUSY, bit 10 (R223). -/
  | busy
  /-- ERR_ADDR, bit 11 (R224). -/
  | addr
deriving DecidableEq, Repr

/-- What a refusal records (R229). -/
inductive ErrInfo where
  /-- The refused command word, for ERRCMD (R31). -/
  | command (w : Word)
  /-- The refused bus address, for ERRADDR (R32). -/
  | access (addr : BusAddr)
deriving DecidableEq, Repr

/-- The response of a bus transaction (R60). -/
inductive Resp where
  | ok | err
deriving DecidableEq, Repr

/-- What a bus transaction returns: a read `(resp, data)`, a write `resp` (R60). -/
inductive BusReply where
  | read (resp : Resp) (data : Word)
  | write (resp : Resp)
deriving DecidableEq, Repr

/-- The reasons the model stops. The spec has no stop ("There is no `stuck` behaviour",
spec/93_implementation_defined.md): each of these names states that no run from reset reaches. -/
inductive Fault where
  /-- Raised by the engine's step (Sys2Proof.Machine.engineStep) in a state with BUSY = 1 whose phase, frame,
  cursor or stride is not one a running command can have (R49, R24, R29). SAFE: no run reaches such a state
  (assumption log 5). -/
  | engineState
  /-- Raised by the engine's deposit (Sys2Proof.Machine.deposit) when a sum does not fit the 18-bit cell; the
  spec gives no overflow behaviour because none can happen (R41, R140). SAFE: no run reaches it
  (assumption log 6). -/
  | cellOverflow
deriving DecidableEq, Repr

/-- The reasons a step gives no meaning. -/
inductive Refusal where
  /-- Raised by an arm of `exec` whose command has no meaning yet; no arm is left in this model. SAFE. -/
  | notModelled (mnemonic : String)
deriving DecidableEq, Repr

/-- The complete state: the twelve stored registers and the four memories of R20, then the model's own fields:
the parameter MAXPIX (R6), which a state carries and no step changes, and what stands for the environment. -/
structure State where
  /-- `STATUS`, offset 0x08 (R27). -/
  status : Word
  /-- `IEN`, offset 0x0C (R28). -/
  ien : Word
  /-- `WIDTH`, offset 0x10 (R22). -/
  width : Word
  /-- `HEIGHT`, offset 0x14 (R23). -/
  height : Word
  /-- `STRIDE`, offset 0x18 (R29). -/
  stride : Word
  /-- `PLEN`, offset 0x1C (R30). -/
  plen : Word
  /-- `CURX`, offset 0x20 (R24). -/
  curx : Word
  /-- `CURY`, offset 0x24 (R24). -/
  cury : Word
  /-- `ERRCMD`, offset 0x28 (R31). -/
  errcmd : Word
  /-- `ERRADDR`, offset 0x2C (R32). -/
  erraddr : Word
  /-- `CSCIN`, offset 0x30 (R33). -/
  cscin : Word
  /-- `ACTCMD`, offset 0x40 (R37). -/
  actcmd : Word
  /-- `IMEM`: 8-bit codes (R40). -/
  imem : Memory 8
  /-- `WBUF`: 18-bit two's-complement cells (R41). -/
  wbuf : Memory 18
  /-- `BMEM`: bits (R42). -/
  bmem : Memory 1
  /-- `PMEM`: bytes (R43). -/
  pmem : Memory 8
  /-- The model's own: MAXPIX = 4 * (capQuads + 1), so every value is a legal MAXPIX and every legal MAXPIX is
  a value (R6; assumption log 2). -/
  capQuads : Fin 1048576
  /-- The model's own: how many hardware resets have happened since `State.reset`, which selects the free
  contents of the memories (U1; assumption log 1). -/
  epoch : Nat
  /-- The model's own: the host's and the platform's next events, in the one total order of R75
  (assumption log 3). -/
  pending : List Event
  /-- The model's own: what the most recent bus transaction returned (R60; assumption log 4). -/
  reply : Option BusReply
deriving DecidableEq, Repr

/-- The state after hardware reset (R48, R250): every stored register 0, no memory element written. MAXPIX is
OPEN in the spec; 65536 is the value of its test vectors (R6; DESIGN CHOICE, assumption log 2). -/
def State.reset : State where
  status := 0#32
  ien := 0#32
  width := 0#32
  height := 0#32
  stride := 0#32
  plen := 0#32
  curx := 0#32
  cury := 0#32
  errcmd := 0#32
  erraddr := 0#32
  cscin := 0#32
  actcmd := 0#32
  imem := []
  wbuf := []
  bmem := []
  pmem := []
  capQuads := ⟨16383, by decide⟩
  epoch := 0
  pending := []
  reply := none

end Sys2Proof.Machine
end

