-- ==== Sys2Proof/Machine/Flags.lean ====
section
/-! DEFINITION. The bits of STATUS and IEN (spec/10_state.md R27, R28) and the interrupt line (R46). -/

namespace Sys2Proof.Machine

/-- The word `w` with bit `i` made `b` (bits numbered from the least significant, R7). -/
def withBit (w : Word) (i : Nat) (b : Bool) : Word :=
  if b then w ||| (1#32 <<< i) else w &&& ~~~(1#32 <<< i)

/-- The code of an error condition is its bit position in STATUS (R220). -/
def ErrKind.code : ErrKind → Nat
  | .dim => 8
  | .cmd => 9
  | .busy => 10
  | .addr => 11

/-- PHASE from STATUS bits 3 and 2: 0 IDLE, 1 SEED, 2 DIFFUSE, 3 PACK (R27). -/
def phaseOfBits : (hi lo : Bool) → Phase
  | false, false => .idle
  | false, true => .seed
  | true, false => .diffuse
  | true, true => .pack

/-- Bit 3 of STATUS in a phase (R27). -/
def Phase.hi : Phase → Bool
  | .idle => false
  | .seed => false
  | .diffuse => true
  | .pack => true

/-- Bit 2 of STATUS in a phase (R27). -/
def Phase.lo : Phase → Bool
  | .idle => false
  | .seed => true
  | .diffuse => false
  | .pack => true

/-- `STATUS.BUSY`, bit 0 (R27). -/
def State.busy (s : State) : Bool := s.status.getLsbD 0

/-- `STATUS.DONE`, bit 1 (R27). -/
def State.done (s : State) : Bool := s.status.getLsbD 1

/-- `STATUS.PHASE`, bits 3:2 (R27). -/
def State.phase (s : State) : Phase := phaseOfBits (s.status.getLsbD 3) (s.status.getLsbD 2)

/-- The error flag of a condition, STATUS bits 8 to 11 (R27, R220). -/
def State.errFlag (s : State) (k : ErrKind) : Bool := s.status.getLsbD k.code

/-- `STATUS.BUSY <- b`. -/
def State.setBusy (b : Bool) (s : State) : State := { s with status := withBit s.status 0 b }

/-- `STATUS.DONE <- b`. -/
def State.setDone (b : Bool) (s : State) : State := { s with status := withBit s.status 1 b }

/-- `STATUS.PHASE <- p`. -/
def State.setPhase (p : Phase) (s : State) : State :=
  { s with status := withBit (withBit s.status 2 p.lo) 3 p.hi }

/-- `STATUS.<flag> <- 1` for an error condition (R220). -/
def State.setErr (k : ErrKind) (s : State) : State := { s with status := withBit s.status k.code true }

/-- The level output `irq` (R46, R227): a pure function of the state. -/
def State.irq (s : State) : Bool := (s.status &&& s.ien &&& Config.flagMask) != 0#32

end Sys2Proof.Machine
end

