-- ==== Sys2Proof/Machine/Operands.lean ====
section
/-! DEFINITION. The primitive functions (spec/00_scope.md R8), the operands a command reads (spec/30_encoding.md
R96), the cursor's position (spec/10_state.md R24), and what a bus address names (spec/20_memory.md R63). -/

namespace Sys2Proof.Machine

/-- `clamp(v, lo, hi)` (R8). -/
def clamp (v lo hi : Int) : Int := if v < lo then lo else if hi < v then hi else v

/-- `tdiv(a, n)`: the quotient truncated toward zero, for n > 0 (R8). `/` on `Int` rounds down for n > 0. -/
def tdiv (a n : Int) : Int := if 0 ≤ a then a / n else -((-a) / n)

/-- `ceil8(w) = (w + 7) >> 3` (R8). -/
def ceil8 (w : Nat) : Nat := (w + 7) / 8

/-- `signed32(w)` (R7). -/
def signed32 (w : Word) : Int := w.toInt

/-- `sext_32` of an 18-bit cell (R7, R68). -/
def sext32 (c : WorkCell) : Word := c.signExtend 32

/-- MAXPIX, the capacity of IMEM, WBUF and BMEM in elements and of PMEM in bytes: a multiple of 4 from 4 to
2^22 (R6). -/
def State.maxpix (s : State) : Nat := 4 * (s.capQuads.val + 1)

/-- `W = signed32(WIDTH)` (R22). -/
def State.frameW (s : State) : Int := signed32 s.width

/-- `H = signed32(HEIGHT)` (R23). -/
def State.frameH (s : State) : Int := signed32 s.height

/-- The dimensions are legal for a command with a stage; the product is that of unbounded integers (R176). -/
def State.frameLegal (s : State) : Bool :=
  decide (0 < s.frameW) && decide (0 < s.frameH) && decide (s.frameW * s.frameH ≤ (s.maxpix : Int))

/-- W of a legal frame, as a natural number. -/
def State.cols (s : State) : Nat := s.frameW.toNat

/-- H of a legal frame, as a natural number. -/
def State.rows (s : State) : Nat := s.frameH.toNat

/-- CURX as a number. -/
def State.x (s : State) : Nat := s.curx.toNat

/-- CURY as a number. -/
def State.y (s : State) : Nat := s.cury.toNat

/-- The linear index of the cursor, `y * W + x` (R10, R74). -/
def State.cursorIndex (s : State) : Nat := s.y * s.cols + s.x

/-- The limit of the cursor in the current phase: W in SEED and DIFFUSE, STRIDE in PACK (R24). -/
def State.limit (s : State) : Nat :=
  match s.phase with
  | .pack => s.stride.toNat
  | .idle => s.cols
  | .seed => s.cols
  | .diffuse => s.cols

/-- The method of the command in execution, ACTCMD[0] (R37, R131). -/
def State.method (s : State) : Method := methodOf s.actcmd

/-- The polarity of the command in execution, ACTCMD[1] (R37, R161). -/
def State.polarity (s : State) : Polarity := polarityOf s.actcmd

/-- The register at an offset of region 0, for an aligned offset: 0x00 to 0x40 hold the seventeen registers,
nothing is mapped above (R38). -/
def regAt (off : Nat) : Option Reg :=
  match off / 4 with
  | 0 => some .id
  | 1 => some .cmd
  | 2 => some .status
  | 3 => some .ien
  | 4 => some .width
  | 5 => some .height
  | 6 => some .stride
  | 7 => some .plen
  | 8 => some .curx
  | 9 => some .cury
  | 10 => some .errcmd
  | 11 => some .erraddr
  | 12 => some .cscin
  | 13 => some .csclin
  | 14 => some .cscsrgb
  | 15 => some .cap
  | 16 => some .actcmd
  | _ => none

/-- What an address names, `none` where the access is refused with ERR_ADDR: misaligned, an unmapped region,
an offset above 0x40, or an index beyond the capacity (R61, R62, R63, R64, R224). -/
def addrTarget (maxpix : Nat) (addr : BusAddr) : Option Target :=
  if addr.extractLsb' 0 2 ≠ 0#2 then none
  else
    let idx := (addr.extractLsb' 2 22).toNat
    match (addr.extractLsb' 24 4).toNat with
    | 0 => (regAt (addr.extractLsb' 0 24).toNat).map .reg
    | 1 => if idx < maxpix then some (.imem idx) else none
    | 2 => if idx < maxpix then some (.bmem idx) else none
    | 3 => if idx < maxpix then some (.wbuf idx) else none
    | 4 => if idx < maxpix / 4 then some (.pmem idx) else none
    | _ => none

/-- The block-local address of a register: its offset in region 0 (R38, R63). -/
def regAddr : Reg → BusAddr
  | .id => 0x00#28
  | .cmd => 0x04#28
  | .status => 0x08#28
  | .ien => 0x0C#28
  | .width => 0x10#28
  | .height => 0x14#28
  | .stride => 0x18#28
  | .plen => 0x1C#28
  | .curx => 0x20#28
  | .cury => 0x24#28
  | .errcmd => 0x28#28
  | .erraddr => 0x2C#28
  | .cscin => 0x30#28
  | .csclin => 0x34#28
  | .cscsrgb => 0x38#28
  | .cap => 0x3C#28
  | .actcmd => 0x40#28

/-- The address of `IMEM[i]` (R63, R99). -/
def imemAddr (i : Nat) : BusAddr := BitVec.ofNat 28 (0x1000000 + 4 * i)

/-- The address of `BMEM[i]` (R63, R99). -/
def bmemAddr (i : Nat) : BusAddr := BitVec.ofNat 28 (0x2000000 + 4 * i)

/-- The address of `WBUF[i]` (R63, R99). -/
def wbufAddr (i : Nat) : BusAddr := BitVec.ofNat 28 (0x3000000 + 4 * i)

/-- The address of word `j` of PMEM, `PMEMW[j]` (R63, R99). -/
def pmemAddr (j : Nat) : BusAddr := BitVec.ofNat 28 (0x4000000 + 4 * j)

end Sys2Proof.Machine
end

