-- ==== Sys2Proof/Machine/Ops.lean ====
section
/-! DEFINITION. The named operations over memories and registers, the refusal (this block's exception,
spec/60_exceptions.md R220, R229) with the host's return from it (R230), the acceptance of a command
(spec/43_control.md R176), the cursor (spec/10_state.md R24) and the resets (R179, R250). -/

namespace Sys2Proof.Machine

/-! ### Memories -/

/-- The written value of element `i`, if there is one. -/
def Memory.find {w : Nat} : Memory w → Nat → Option (BitVec w)
  | [], _ => none
  | (a, v) :: rest, i => if i = a then some v else if i < a then none else Memory.find rest i

/-- Write element `i`, keeping the indices strictly rising. -/
def Memory.insert {w : Nat} : Memory w → Nat → BitVec w → Memory w
  | [], i, v => [(i, v)]
  | (a, u) :: rest, i, v =>
    if i = a then (i, v) :: rest
    else if i < a then (i, v) :: (a, u) :: rest
    else (a, u) :: Memory.insert rest i v

/-- The canonical form from an index on: indices strictly rising, all at least `lo` and below `hi`. -/
def Memory.wfFrom {w : Nat} (lo hi : Nat) : Memory w → Bool
  | [] => true
  | (a, _) :: rest => decide (lo ≤ a) && decide (a < hi) && Memory.wfFrom (a + 1) hi rest

/-- The canonical form of a memory with `cap` elements. An unlisted element has no value of its own, so no
entry can equal it. -/
def Memory.wf {w : Nat} (cap : Nat) (m : Memory w) : Bool := Memory.wfFrom 0 cap m

/-- `IMEM[i]` (R40); a free value where nothing has been written (U1). -/
def State.imemAt (s : State) (i : Nat) : Code := (s.imem.find i).getD (Config.freeImem s.epoch i)

/-- The cell `WBUF[i]` (R41); a free value where nothing has been written (U1). -/
def State.wbufCell (s : State) (i : Nat) : WorkCell := (s.wbuf.find i).getD (Config.freeWbuf s.epoch i)

/-- `WBUF[i]` as the signed integer it holds (R41). -/
def State.wbufAt (s : State) (i : Nat) : Int := (s.wbufCell i).toInt

/-- `BMEM[i]` (R42); a free value where nothing has been written (U1). -/
def State.bmemAt (s : State) (i : Nat) : PixelBit := (s.bmem.find i).getD (Config.freeBmem s.epoch i)

/-- `PMEM[j]` (R43); a free value where nothing has been written (U1). -/
def State.pmemAt (s : State) (j : Nat) : Byte := (s.pmem.find j).getD (Config.freePmem s.epoch j)

/-- `IMEM[i] <- v`. -/
def State.writeImem (i : Nat) (v : Code) (s : State) : State := { s with imem := s.imem.insert i v }

/-- `WBUF[i] <- v`. -/
def State.writeWbuf (i : Nat) (v : WorkCell) (s : State) : State := { s with wbuf := s.wbuf.insert i v }

/-- `BMEM[i] <- v`. -/
def State.writeBmem (i : Nat) (v : PixelBit) (s : State) : State := { s with bmem := s.bmem.insert i v }

/-- `PMEM[j] <- v`. -/
def State.writePmem (j : Nat) (v : Byte) (s : State) : State := { s with pmem := s.pmem.insert j v }

/-- The word `j` of PMEM, little-endian: `PMEM[4j]` in bits 7:0 (R69, R71). -/
def State.pmemWord (s : State) (j : Nat) : Word :=
  s.pmemAt (4 * j + 3) ++ s.pmemAt (4 * j + 2) ++ s.pmemAt (4 * j + 1) ++ s.pmemAt (4 * j)

/-- A signed integer as an 18-bit cell, if it fits (R41). -/
def cellOfInt (v : Int) : Option WorkCell :=
  if -131072 ≤ v ∧ v ≤ 131071 then some (BitVec.ofInt 18 v) else none

/-! ### Registers -/

/-- `CURX <- x; CURY <- y` (R24). -/
def State.setCursor (x y : Word) (s : State) : State := { s with curx := x, cury := y }

/-- `ACTCMD <- w` (R37). -/
def State.setActcmd (w : Word) (s : State) : State := { s with actcmd := w }

/-- `STRIDE <- ceil8(W); PLEN <- H * ceil8(W)` (R29, R30, R176). -/
def State.latchPack (s : State) : State :=
  { s with
    stride := BitVec.ofNat 32 (ceil8 s.cols)
    plen := BitVec.ofNat 32 (s.rows * ceil8 s.cols) }

/-- What a bus transaction returns (R60). -/
def State.setReply (r : BusReply) (s : State) : State := { s with reply := some r }

/-- `advance(limit)` (R24): the next position in row-major order. -/
def State.advance (lim : Nat) (s : State) : State :=
  if s.x + 1 < lim then s.setCursor (s.curx + 1#32) s.cury
  else s.setCursor 0#32 (s.cury + 1#32)

/-- `phase_finished`: CURY = H, tested after the cursor's update (R24). -/
def State.phaseFinished (s : State) : Bool := decide ((s.y : Int) = s.frameH)

/-! ### The refusal, and the return from it -/

/-- `raise X(info)` (R9, R220, R229): set the flag, record the refused command word in ERRCMD or the refused
address, zero-extended, in ERRADDR, and change nothing else. This is this block's one way of taking an
exception: it changes no mode, no mask and no cursor, and nothing is vectored. -/
def State.raise (k : ErrKind) (info : ErrInfo) (s : State) : State :=
  match info with
  | .command w => { s.setErr k with errcmd := w }
  | .access a => { s.setErr k with erraddr := a.setWidth 32 }

/-- The return (R230): the host writes `d` to STATUS, which clears exactly the bits of {1, 8, 9, 10, 11} at
which `d` has a 1 (R27, R66); the capture registers keep their values. -/
def State.acknowledge (d : Word) (s : State) : State :=
  { s with status := s.status &&& ~~~(d &&& Config.flagMask) }

/-! ### Starting, finishing and abandoning a command -/

/-- The effect of acceptance once the dimensions are found legal (R176). -/
def State.begin (w : Word) (s : State) : State :=
  let t := (((s.setActcmd w).setDone false).setBusy true).setCursor 0#32 0#32
  let u := if hasPack w then t.latchPack else t
  u.setPhase (if hasDither w then .seed else .pack)

/-- `Accept(w)` (R176): the dimension check, then the start of the command. -/
def accept (w : Word) (s : State) : State :=
  if s.frameLegal then s.begin w else s.raise .dim (.command w)

/-- A command with a stage, written to CMD (R175): refused with ERR_BUSY while another runs, else accepted or
refused with ERR_DIM. -/
def startCommand (w : Word) (s : State) : State :=
  if s.busy then s.raise .busy (.command w) else accept w s

/-- `Complete` (R182). -/
def complete (s : State) : State := ((s.setPhase .idle).setBusy false).setDone true

/-- `PhaseEnd` (R181): the cursor returns to (0, 0) and the next phase begins, or the command completes. -/
def phaseEnd (s : State) : State :=
  let t := s.setCursor 0#32 0#32
  match s.phase with
  | .seed => t.setPhase .diffuse
  | .diffuse => if hasPack s.actcmd then t.setPhase .pack else complete t
  | .pack => complete t
  | .idle => t

/-- The end of an engine step (R180): if the phase is finished, PhaseEnd in the same step. -/
def endStep (s : State) : State := if s.phaseFinished then phaseEnd s else s

/-- The stored registers at their reset values (R48). -/
def State.clearRegisters (s : State) : State :=
  { s with
    status := 0#32, ien := 0#32, width := 0#32, height := 0#32, stride := 0#32, plen := 0#32
    curx := 0#32, cury := 0#32, errcmd := 0#32, erraddr := 0#32, cscin := 0#32, actcmd := 0#32 }

/-- `SoftReset()` (R179): the registers take their reset values, the memories are not written. -/
def softReset (s : State) : State := s.clearRegisters

/-- The platform's `Reset` (R250, R251): the registers take their reset values and the contents of the four
memories are unspecified, so no element is listed and the free values are those of the next epoch (U1). -/
def hardReset (s : State) : State :=
  { s.clearRegisters with imem := [], wbuf := [], bmem := [], pmem := [], epoch := s.epoch + 1 }

end Sys2Proof.Machine
end

