-- ==== Sys2Proof/Machine/Control.lean ====
section
/-! DEFINITION. The composite and system commands (spec/43_control.md): `NOP` (R177), the four `RUN` commands
(R183 to R186) and `SRST` (R179). -/

namespace Sys2Proof.Machine

/-- `NOP` (R177, R175): ACTCMD takes its word and DONE is set; refused with ERR_BUSY while a command runs. -/
def execNop (s : State) : Host.Outcome State Fault Refusal :=
  .next (if s.busy then s.raise .busy (.command (encode .nop)) else (s.setActcmd (encode .nop)).setDone true)

/-- `RUN.ORD.DIR` (R183, R176): start the dither stage with M = 0, to be followed by the pack stage with
P = 0. -/
def execRunOrdDir (s : State) : Host.Outcome State Fault Refusal := .next (startCommand (encode .runOrdDir) s)

/-- `RUN.EXT.DIR` (R184, R176): dither with M = 1, then pack with P = 0. -/
def execRunExtDir (s : State) : Host.Outcome State Fault Refusal := .next (startCommand (encode .runExtDir) s)

/-- `RUN.ORD.INV` (R185, R176): dither with M = 0, then pack with P = 1. -/
def execRunOrdInv (s : State) : Host.Outcome State Fault Refusal := .next (startCommand (encode .runOrdInv) s)

/-- `RUN.EXT.INV` (R186, R176): dither with M = 1, then pack with P = 1. -/
def execRunExtInv (s : State) : Host.Outcome State Fault Refusal := .next (startCommand (encode .runExtInv) s)

/-- `SRST` (R179): accepted busy or idle; every register takes its reset value, the memories stay. -/
def execSrst (s : State) : Host.Outcome State Fault Refusal := .next (softReset s)

end Sys2Proof.Machine
end

