-- ==== Sys2Proof/Machine/Colorspace.lean ====
section
/-! DEFINITION. The colorspace converter: the tables `LIN` and `T`, the function `SRGB` and the lookup port
(spec/40_colorspace.md R112 to R118). -/

namespace Sys2Proof.Machine

/-- The table `LIN[0..255]`, sixteen entries a line (R113). -/
def linTable : List Nat :=
  [0, 20, 40, 59, 79, 99, 119, 139, 159, 178, 198, 218, 240, 263, 287, 312] ++
  [338, 366, 395, 425, 457, 490, 524, 559, 596, 635, 674, 715, 758, 802, 848, 894] ++
  [943, 993, 1044, 1097, 1152, 1208, 1265, 1324, 1385, 1448, 1511, 1577, 1644, 1713, 1784, 1856] ++
  [1929, 2005, 2082, 2161, 2242, 2324, 2408, 2494, 2582, 2671, 2762, 2855, 2950, 3046, 3145, 3245] ++
  [3347, 3451, 3556, 3664, 3774, 3885, 3998, 4113, 4230, 4349, 4470, 4593, 4718, 4845, 4973, 5104] ++
  [5237, 5371, 5508, 5647, 5787, 5930, 6075, 6222, 6371, 6521, 6674, 6829, 6986, 7146, 7307, 7470] ++
  [7636, 7803, 7973, 8145, 8319, 8495, 8674, 8854, 9037, 9222, 9409, 9598, 9789, 9983, 10179, 10377] ++
  [10577, 10780, 10985, 11192, 11401, 11613, 11826, 12043, 12261, 12482, 12705, 12930, 13158, 13388, 13620, 13854] ++
  [14091, 14331, 14572, 14816, 15063, 15311, 15563, 15816, 16072, 16330, 16591, 16854, 17120, 17388, 17658, 17931] ++
  [18206, 18484, 18764, 19047, 19332, 19619, 19910, 20202, 20497, 20795, 21095, 21397, 21702, 22010, 22320, 22633] ++
  [22948, 23266, 23586, 23909, 24234, 24562, 24893, 25226, 25562, 25900, 26241, 26585, 26931, 27280, 27631, 27985] ++
  [28342, 28701, 29063, 29427, 29795, 30164, 30537, 30912, 31290, 31671, 32054, 32440, 32828, 33220, 33614, 34011] ++
  [34410, 34812, 35217, 35625, 36035, 36448, 36864, 37283, 37704, 38129, 38556, 38985, 39418, 39853, 40291, 40732] ++
  [41176, 41622, 42072, 42524, 42979, 43436, 43897, 44361, 44827, 45296, 45768, 46243, 46720, 47201, 47684, 48171] ++
  [48660, 49152, 49647, 50145, 50646, 51149, 51656, 52165, 52678, 53193, 53711, 54233, 54757, 55284, 55814, 56347] ++
  [56883, 57422, 57964, 58508, 59056, 59607, 60161, 60718, 61277, 61840, 62406, 62975, 63547, 64121, 64699, 65280]

/-- The table `T[1..255]`, fifteen entries on the first line and sixteen on each other (R116). -/
def thresholdTable : List Nat :=
  [10, 30, 50, 70, 90, 109, 129, 149, 169, 189, 209, 230, 252, 275, 300] ++
  [325, 352, 381, 410, 441, 473, 507, 542, 578, 616, 655, 695, 737, 780, 825, 871] ++
  [919, 968, 1019, 1071, 1125, 1180, 1237, 1295, 1355, 1417, 1480, 1545, 1611, 1679, 1749, 1820] ++
  [1893, 1968, 2044, 2122, 2202, 2283, 2366, 2451, 2538, 2627, 2717, 2809, 2903, 2998, 3096, 3195] ++
  [3296, 3399, 3504, 3611, 3719, 3829, 3942, 4056, 4172, 4290, 4410, 4532, 4656, 4782, 4909, 5039] ++
  [5171, 5304, 5440, 5578, 5717, 5859, 6003, 6149, 6296, 6446, 6598, 6752, 6908, 7066, 7227, 7389] ++
  [7553, 7720, 7889, 8059, 8232, 8407, 8585, 8764, 8946, 9129, 9315, 9504, 9694, 9886, 10081, 10278] ++
  [10477, 10679, 10882, 11088, 11297, 11507, 11720, 11935, 12152, 12372, 12593, 12818, 13044, 13273, 13504, 13737] ++
  [13973, 14211, 14452, 14695, 14940, 15187, 15437, 15690, 15944, 16201, 16461, 16723, 16987, 17254, 17523, 17795] ++
  [18069, 18345, 18624, 18906, 19190, 19476, 19765, 20056, 20350, 20646, 20945, 21246, 21550, 21856, 22165, 22477] ++
  [22791, 23107, 23426, 23748, 24072, 24399, 24728, 25060, 25394, 25731, 26071, 26413, 26758, 27105, 27455, 27808] ++
  [28163, 28521, 28882, 29245, 29611, 29980, 30351, 30725, 31101, 31480, 31862, 32247, 32634, 33024, 33417, 33812] ++
  [34210, 34611, 35015, 35421, 35830, 36242, 36657, 37074, 37494, 37917, 38342, 38771, 39202, 39636, 40072, 40512] ++
  [40954, 41399, 41847, 42298, 42751, 43208, 43667, 44129, 44594, 45062, 45532, 46005, 46482, 46961, 47443, 47928] ++
  [48416, 48906, 49400, 49896, 50395, 50898, 51403, 51911, 52422, 52936, 53452, 53972, 54495, 55020, 55549, 56081] ++
  [56615, 57152, 57693, 58236, 58783, 59332, 59884, 60439, 60998, 61559, 62123, 62690, 63261, 63834, 64410, 64990]

/-- `LIN[c]`: the linear-light value of code `c` in working units (R112). -/
def lin (c : Nat) : Nat := linTable.getD c 0

/-- `T[k]` for 1 <= k <= 255 (R115). -/
def threshold (k : Nat) : Nat := thresholdTable.getD (k - 1) 0

/-- `SRGB(v)`: the number of thresholds not above `v` (R115). -/
def srgb (v : Nat) : Nat := thresholdTable.countP (fun t => t ≤ v)

/-- A read of CSCLIN (R34, R118). -/
def State.csclin (s : State) : Word := BitVec.ofNat 32 (lin (clamp (signed32 s.cscin) 0 255).toNat)

/-- A read of CSCSRGB (R35, R118). -/
def State.cscsrgb (s : State) : Word :=
  BitVec.ofNat 32 (srgb (clamp (signed32 s.cscin) 0 Config.one).toNat)

end Sys2Proof.Machine
end

