-- ==== Sys2Proof/Machine/Dither.lean ====
section
/-! DEFINITION. The ditherer: the SEED and DIFFUSE steps (spec/41_dither.md R131 to R137) and the commands
`DITHER.ORD` and `DITHER.EXT` (R138, R139). -/

namespace Sys2Proof.Machine

/-- The seed of a code: `256 * c` for ORD, `LIN[c]` for EXT (R131, R119). -/
def seedOf (m : Method) (c : Code) : Nat :=
  match m with
  | .ord => 256 * c.toNat
  | .ext => lin c.toNat

/-- One SEED step (R131): one cell of WBUF from the code at the cursor, then the cursor. -/
def seedStep (s : State) : State :=
  (s.writeWbuf s.cursorIndex (BitVec.ofNat 18 (seedOf s.method (s.imemAt s.cursorIndex)))).advance s.cols

/-- The decision `q` on an accumulated value (R132): the comparison is strict, HALF gives 0. -/
def decision (v : Int) : PixelBit := if Config.half < v then 1#1 else 0#1

/-- The quantization error `e = v - q * ONE` (R132). -/
def quantError (v : Int) : Int := v - (if Config.half < v then Config.one else 0)

/-- One share of an error: `d` for the neighbour at offset (dx, dy). -/
structure Share where
  dx : Int
  dy : Int
  d : Int
deriving DecidableEq, Repr

/-- The ORD kernel (R136): right, bottom-left, bottom, bottom-right, each share truncated separately. -/
def ordShares (e : Int) : List Share :=
  [⟨1, 0, tdiv (7 * e) 16⟩, ⟨-1, 1, tdiv (3 * e) 16⟩, ⟨0, 1, tdiv (5 * e) 16⟩, ⟨1, 1, tdiv e 16⟩]

/-- The EXT kernel (R137): six neighbours, the same share for each. -/
def extShares (e : Int) : List Share :=
  [⟨1, 0, tdiv e 8⟩, ⟨2, 0, tdiv e 8⟩, ⟨-1, 1, tdiv e 8⟩, ⟨0, 1, tdiv e 8⟩, ⟨1, 1, tdiv e 8⟩,
    ⟨0, 2, tdiv e 8⟩]

/-- The shares of an error under a method. -/
def sharesOf (m : Method) (e : Int) : List Share :=
  match m with
  | .ord => ordShares e
  | .ext => extShares e

/-- The coordinates lie in the frame (R74, R134). -/
def State.inFrame (s : State) (x y : Int) : Bool :=
  decide (0 ≤ x) && decide (x < s.frameW) && decide (0 ≤ y) && decide (y < s.frameH)

/-- `deposit(x', y', d)` (R134): a target outside the frame is skipped, the check being on the coordinates;
`none` where the sum does not fit the cell, which R140 excludes. -/
def deposit (x y d : Int) (s : State) : Option State :=
  if s.inFrame x y then
    let i := (y * s.frameW + x).toNat
    (cellOfInt (s.wbufAt i + d)).map fun c => s.writeWbuf i c
  else some s

/-- The deposits of one visit of the pixel (x, y), in the kernel's order. -/
def depositAll (x y : Int) : List Share → State → Option State
  | [], s => some s
  | a :: rest, s => (deposit (x + a.dx) (y + a.dy) a.d s).bind (depositAll x y rest)

/-- One DIFFUSE step (R132, R133, R135 to R139): decide the pixel at the cursor, write its bit, deposit its
error, then the cursor. The visited cell keeps its value. -/
def diffuseStep (s : State) : Option State :=
  let v := s.wbufAt s.cursorIndex
  let t := s.writeBmem s.cursorIndex (decision v)
  (depositAll s.x s.y (sharesOf s.method (quantError v)) t).map fun u => u.advance s.cols

/-- `DITHER.ORD` (R138, R175, R176): start the dither stage with M = 0. Its W * H SEED steps and W * H DIFFUSE
steps are the engine's (Sys2Proof.Machine.engineStep). -/
def execDitherOrd (s : State) : Host.Outcome State Fault Refusal := .next (startCommand (encode .ditherOrd) s)

/-- `DITHER.EXT` (R139, R175, R176): start the dither stage with M = 1. -/
def execDitherExt (s : State) : Host.Outcome State Fault Refusal := .next (startCommand (encode .ditherExt) s)

end Sys2Proof.Machine
end

