-- ==== Sys2Proof/Machine/Pack.lean ====
section
/-! DEFINITION. The bit packer: the PACK step (spec/42_pack.md R161, R162) and the commands `PACK.DIR` and
`PACK.INV` (R163, R164). -/

namespace Sys2Proof.Machine

/-- `polarity(v) = v XOR P` (R162). -/
def polarize (p : Polarity) (v : PixelBit) : PixelBit :=
  match p with
  | .dir => v
  | .inv => v ^^^ 1#1

/-- The bit at column `px` of row `r`: the pixel's, through the polarity, or the padding 0 whatever the
polarity (R161, R165). -/
def packedBit (s : State) (r px : Nat) : PixelBit :=
  if px < s.cols then polarize s.polarity (s.bmemAt (r * s.cols + px)) else 0#1

/-- The byte `b` of row `r`: pixel `8b + p` lands in bit `7 - p` (R161). -/
def packedByte (s : State) (r b : Nat) : Byte :=
  BitVec.ofNat 8 ((List.range 8).foldl (fun byte p => byte + ((packedBit s r (8 * b + p)).toNat <<< (7 - p))) 0)

/-- One PACK step (R161): one byte of PMEM, then the cursor. -/
def packStep (s : State) : State :=
  (s.writePmem (s.y * s.stride.toNat + s.x) (packedByte s s.y s.x)).advance s.stride.toNat

/-- `PACK.DIR` (R163, R175, R176): start the pack stage with P = 0. Its H * STRIDE PACK steps are the engine's
(Sys2Proof.Machine.engineStep). -/
def execPackDir (s : State) : Host.Outcome State Fault Refusal := .next (startCommand (encode .packDir) s)

/-- `PACK.INV` (R164, R175, R176): start the pack stage with P = 1. -/
def execPackInv (s : State) : Host.Outcome State Fault Refusal := .next (startCommand (encode .packInv) s)

end Sys2Proof.Machine
end

