-- ==== Sys2Proof/Machine/Engine.lean ====
section
/-! DEFINITION. The engine: one step of the command in execution, and several (spec/43_control.md R180 to R182,
R187). -/

namespace Sys2Proof.Machine

/-- What holds of a running command (R49, R24, R29): a legal frame, the cursor inside the phase's scan, and in
PACK the stride of the frame. The engine's accesses then stay within the capacity (R74). -/
def State.engineReady (s : State) : Bool :=
  s.frameLegal && decide (s.x < s.limit) && decide (s.y < s.rows) &&
    (s.phase != .pack || s.stride.toNat == ceil8 s.cols)

/-- `EngineStep` (R180): nothing when idle; while BUSY, one cell seeded, one pixel visited or one byte packed,
then PhaseEnd if that finished the phase. -/
def engineStep (s : State) : Host.Outcome State Fault Refusal :=
  if s.busy = false then .next s
  else if s.engineReady = false then .fault .engineState
  else
    match s.phase with
    | .idle => .fault .engineState
    | .seed => .next (endStep (seedStep s))
    | .diffuse =>
      match diffuseStep s with
      | some t => .next (endStep t)
      | none => .fault .cellOverflow
    | .pack => .next (endStep (packStep s))

/-- `k` engine steps with nothing between them, stopping at the first fault. -/
def engineRun : Nat → State → Host.Outcome State Fault Refusal
  | 0, s => .next s
  | k + 1, s =>
    match engineStep s with
    | .next t => engineRun k t
    | .fault f => .fault f
    | .refused r => .refused r

/-- The number of engine steps of a command with word `w` on the current frame (R187). -/
def commandSteps (w : Word) (s : State) : Nat :=
  (if hasDither w then 2 * (s.cols * s.rows) else 0) + (if hasPack w then s.rows * ceil8 s.cols else 0)

end Sys2Proof.Machine
end

