-- ==== Sys2Proof/Machine/Dispatch.lean ====
section
/-! DEFINITION. One arm for each command: what a write of its word to CMD does (spec/43_control.md R175). -/

namespace Sys2Proof.Machine

def exec (i : Instr) (s : State) : Host.Outcome State Fault Refusal :=
  match i with
  | .nop => Sys2Proof.Machine.execNop s
  | .ditherOrd => Sys2Proof.Machine.execDitherOrd s
  | .ditherExt => Sys2Proof.Machine.execDitherExt s
  | .packDir => Sys2Proof.Machine.execPackDir s
  | .packInv => Sys2Proof.Machine.execPackInv s
  | .runOrdDir => Sys2Proof.Machine.execRunOrdDir s
  | .runExtDir => Sys2Proof.Machine.execRunExtDir s
  | .runOrdInv => Sys2Proof.Machine.execRunOrdInv s
  | .runExtInv => Sys2Proof.Machine.execRunExtInv s
  | .srst => Sys2Proof.Machine.execSrst s

end Sys2Proof.Machine
end

