-- ==== Sys2Proof/Machine/Bus.lean ====
section
/-! DEFINITION. The command decoder's dispatch (spec/43_control.md R175), the bus transactions and the registers
and windows behind them (spec/20_memory.md R60 to R70), and the effect of each event of the environment. -/

namespace Sys2Proof.Machine

/-- The outcome with a function applied to its next state. -/
def mapNext (f : State → State) : Host.Outcome State Fault Refusal → Host.Outcome State Fault Refusal
  | .next s => .next (f s)
  | .fault r => .fault r
  | .refused r => .refused r

/-- An illegal command word (R175, R97): ERR_BUSY while a command runs, else ERR_CMD (R222, R223). -/
def illegalCommand (w : Word) (s : State) : State :=
  if s.busy then s.raise .busy (.command w) else s.raise .cmd (.command w)

/-- `Command(w)` (R175): what a host write of `w` to CMD runs. Each command's own meaning makes its busy test,
so `SRST` is accepted in every state. -/
def command (w : Word) (s : State) : Host.Outcome State Fault Refusal :=
  match decode w with
  | .ok i => exec i s
  | .error _ => .next (illegalCommand w s)

/-- `RegRead` (R65): the word a register location returns; a read never changes state. -/
def regRead (r : Reg) (s : State) : Word :=
  match r with
  | .id => Config.idWord
  | .cmd => 0#32
  | .status => s.status
  | .ien => s.ien
  | .width => s.width
  | .height => s.height
  | .stride => s.stride
  | .plen => s.plen
  | .curx => s.curx
  | .cury => s.cury
  | .errcmd => s.errcmd
  | .erraddr => s.erraddr
  | .cscin => s.cscin
  | .csclin => s.csclin
  | .cscsrgb => s.cscsrgb
  | .cap => BitVec.ofNat 32 s.maxpix
  | .actcmd => s.actcmd

/-- A read refused with an error: response ERR, data 0 (R61). -/
def refuseRead (k : ErrKind) (addr : BusAddr) (s : State) : State :=
  (s.raise k (.access addr)).setReply (.read .err 0#32)

/-- A write refused with an error: response ERR (R61, R62). -/
def refuseWrite (k : ErrKind) (addr : BusAddr) (s : State) : State :=
  (s.raise k (.access addr)).setReply (.write .err)

/-- A read answered with `(OK, data)`. -/
def answerRead (data : Word) (s : State) : State := s.setReply (.read .ok data)

/-- A write answered with OK. -/
def answerWrite (s : State) : State := s.setReply (.write .ok)

/-- The read of a memory window: refused while BUSY (R61, R70), else the data. -/
def windowRead (addr : BusAddr) (data : Word) (s : State) : State :=
  if s.busy then refuseRead .busy addr s else answerRead data s

/-- The write of a memory window or of a locked register: refused while BUSY (R62, R66, R70), else the state
written. -/
def lockedWrite (addr : BusAddr) (written : State) (s : State) : State :=
  if s.busy then refuseWrite .busy addr s else answerWrite written

/-- `HostRead(addr)` (R61): the address checks come before the busy check. -/
def hostRead (addr : BusAddr) (s : State) : State :=
  match addrTarget s.maxpix addr with
  | none => refuseRead .addr addr s
  | some (.reg r) => answerRead (regRead r s) s
  | some (.imem i) => windowRead addr ((s.imemAt i).setWidth 32) s
  | some (.bmem i) => windowRead addr ((s.bmemAt i).setWidth 32) s
  | some (.wbuf i) => windowRead addr (sext32 (s.wbufCell i)) s
  | some (.pmem j) => windowRead addr (s.pmemWord j) s

/-- `RegWrite(off, data)` (R66). A write to CMD always returns OK; a write to a read-only register is ignored
and returns OK. -/
def regWrite (r : Reg) (addr : BusAddr) (data : Word) (s : State) : Host.Outcome State Fault Refusal :=
  match r with
  | .cmd => mapNext answerWrite (command data s)
  | .status => .next (answerWrite (s.acknowledge data))
  | .ien => .next (answerWrite { s with ien := data &&& Config.flagMask })
  | .width => .next (lockedWrite addr { s with width := data } s)
  | .height => .next (lockedWrite addr { s with height := data } s)
  | .cscin => .next (answerWrite { s with cscin := data })
  | .id => .next (answerWrite s)
  | .stride => .next (answerWrite s)
  | .plen => .next (answerWrite s)
  | .curx => .next (answerWrite s)
  | .cury => .next (answerWrite s)
  | .errcmd => .next (answerWrite s)
  | .erraddr => .next (answerWrite s)
  | .csclin => .next (answerWrite s)
  | .cscsrgb => .next (answerWrite s)
  | .cap => .next (answerWrite s)
  | .actcmd => .next (answerWrite s)

/-- The code an IMEM window write stores: the data read as signed and clamped (R67). -/
def clampCode (data : Word) : Code := BitVec.ofNat 8 (clamp (signed32 data) 0 255).toNat

/-- `HostWrite(addr, data)` (R62): IMEM and BMEM are written, the WBUF and PMEM windows ignore the data. -/
def hostWrite (addr : BusAddr) (data : Word) (s : State) : Host.Outcome State Fault Refusal :=
  match addrTarget s.maxpix addr with
  | none => .next (refuseWrite .addr addr s)
  | some (.reg r) => regWrite r addr data s
  | some (.imem i) => .next (lockedWrite addr (s.writeImem i (clampCode data)) s)
  | some (.bmem i) => .next (lockedWrite addr (s.writeBmem i (data.extractLsb' 0 1)) s)
  | some (.wbuf _) => .next (lockedWrite addr s s)
  | some (.pmem _) => .next (lockedWrite addr s s)

/-- One event of the environment, taken off the list. `WAIT` polls STATUS until BUSY is 0 (R100): while a
command runs the engine steps between two polls (R12), and the poll that answers is the one at idle. -/
def runEvent (e : Event) (s : State) : Host.Outcome State Fault Refusal :=
  match e with
  | .hostRead addr => .next (hostRead addr s)
  | .hostWrite addr data => hostWrite addr data s
  | .platformReset => .next (hardReset s)
  | .engineTurn => engineStep s
  | .wait =>
    if s.busy then mapNext (fun t => { t with pending := .wait :: t.pending }) (engineStep s)
    else .next (hostRead (regAddr .status) s)

/-- The events of the list `l`, each at its turn: element `k` of it written at the address `addr k`. -/
def loadFrom (addr : Nat → BusAddr) : Nat → List Word → List Event
  | _, [] => []
  | k, v :: rest => .hostWrite (addr k) v :: loadFrom addr (k + 1) rest

/-- The transactions a host statement stands for (R99, R100). -/
def stmtEvents : HostStmt → List Event
  | .wr addr v => [.hostWrite addr v]
  | .rd addr => [.hostRead addr]
  | .cmd i => [.hostWrite (regAddr .cmd) (encode i)]
  | .cmdWord w => [.hostWrite (regAddr .cmd) w]
  | .setDim w h => [.hostWrite (regAddr .width) w, .hostWrite (regAddr .height) h]
  | .loadImg codes => loadFrom imemAddr 0 codes
  | .loadBin bits => loadFrom bmemAddr 0 bits
  | .wait => [.wait]
  | .clrStat => [.hostWrite (regAddr .status) Config.flagMask]

/-- The transactions of a host program, statement after statement (R99). -/
def programEvents (p : List HostStmt) : List Event := p.flatMap stmtEvents

end Sys2Proof.Machine
end

