-- ==== Sys2Proof/Machine/Step.lean ====
section
/-! DEFINITION. The step of the whole block: the next event of the environment, or the engine's step when the
environment has none (spec/00_scope.md R12, spec/43_control.md R180). -/

namespace Sys2Proof.Machine

/-- One atomic step (R12, R60, R75): the first pending event happens; with none pending, a busy engine takes
its step and an idle block stays as it is (R180, R233). -/
def step (s : State) : Host.Outcome State Fault Refusal :=
  match s.pending with
  | [] => engineStep s
  | e :: rest => runEvent e { s with pending := rest }

/-- The state in which the next event is the host's write of the command word `w` to CMD: a command is not
fetched (R77, R90), it arrives as that write (assumption log 3). -/
def State.withFetchWord (s : State) (nbits w : Nat) : State :=
  { s with pending := .hostWrite (regAddr .cmd) (BitVec.ofNat 32 (w % 2 ^ nbits)) :: s.pending }

end Sys2Proof.Machine
end

