-- ==== Sys2Proof/Machine/Reference.lean ====
section
/-! DEFINITION. What a whole stage leaves, written a second time from the spec's big-step rules and apart from
the engine's steps: the share of a neighbour (spec/41_dither.md R136, R137), the gather form of both methods
(R142), and the packed byte (spec/42_pack.md R165). The machine does not call these; statements compare it with
them. -/

namespace Sys2Proof.Machine

/-- What one visit adds to the cell at offset (dx, dy) from the visited pixel, ORD (R136). -/
def ordShareAt (e dx dy : Int) : Int :=
  if dx = 1 ∧ dy = 0 then tdiv (7 * e) 16
  else if dx = -1 ∧ dy = 1 then tdiv (3 * e) 16
  else if dx = 0 ∧ dy = 1 then tdiv (5 * e) 16
  else if dx = 1 ∧ dy = 1 then tdiv e 16
  else 0

/-- What one visit adds to the cell at offset (dx, dy) from the visited pixel, EXT (R137). -/
def extShareAt (e dx dy : Int) : Int :=
  if (dx = 1 ∧ dy = 0) ∨ (dx = 2 ∧ dy = 0) ∨ (dx = -1 ∧ dy = 1) ∨ (dx = 0 ∧ dy = 1) ∨ (dx = 1 ∧ dy = 1) ∨
      (dx = 0 ∧ dy = 2) then tdiv e 8
  else 0

/-- `f` of the error of pixel (a, b), or nothing where the pixel lies outside the frame (R142). The errors
known so far are listed in row-major order. -/
def sourceTerm (errs : List Int) (w h : Nat) (a b : Int) (f : Int → Int) : Int :=
  if 0 ≤ a ∧ a < w ∧ 0 ≤ b ∧ b < h then f (errs.getD (b * w + a).toNat 0) else 0

/-- The value pixel `i` is decided on, from its seed and the errors of the pixels visited before it (R142). -/
def gatherFrom (m : Method) (w h : Nat) (seed : Nat → Int) (errs : List Int) (i : Nat) : Int :=
  let x : Int := (i % w : Nat)
  let y : Int := (i / w : Nat)
  match m with
  | .ord =>
    seed i + sourceTerm errs w h (x - 1) y (fun e => tdiv (7 * e) 16)
      + sourceTerm errs w h (x - 1) (y - 1) (fun e => tdiv e 16)
      + sourceTerm errs w h x (y - 1) (fun e => tdiv (5 * e) 16)
      + sourceTerm errs w h (x + 1) (y - 1) (fun e => tdiv (3 * e) 16)
  | .ext =>
    seed i + sourceTerm errs w h (x - 1) y (fun e => tdiv e 8)
      + sourceTerm errs w h (x - 2) y (fun e => tdiv e 8)
      + sourceTerm errs w h (x + 1) (y - 1) (fun e => tdiv e 8)
      + sourceTerm errs w h x (y - 1) (fun e => tdiv e 8)
      + sourceTerm errs w h (x - 1) (y - 1) (fun e => tdiv e 8)
      + sourceTerm errs w h x (y - 2) (fun e => tdiv e 8)

/-- The errors of the first `n` pixels in row-major order (R142). -/
def gatherErrs (m : Method) (w h : Nat) (seed : Nat → Int) : Nat → List Int
  | 0 => []
  | n + 1 =>
    let errs := gatherErrs m w h seed n
    errs ++ [quantError (gatherFrom m w h seed errs n)]

/-- The value pixel `i` is decided on: `v(x, y)` of R142. -/
def gatherValue (m : Method) (w h : Nat) (seed : Nat → Int) (i : Nat) : Int :=
  gatherFrom m w h seed (gatherErrs m w h seed i) i

/-- The bit that position `p` of byte `b` of row `r` must hold: `bitval(r, 8b + p)` of R165. -/
def bitval (pol : Polarity) (w : Nat) (bits : Nat → PixelBit) (r px : Nat) : Bool :=
  if px < w then
    match pol with
    | .dir => bits (r * w + px) == 1#1
    | .inv => bits (r * w + px) == 0#1
  else false

end Sys2Proof.Machine
end

