-- ==== Sys2Proof/Safety.lean ====
section
/-! DEFINITION. The terms statements use: the invariant of every reachable state (spec/10_state.md R49), the
range of the working buffer (spec/41_dither.md R140), what a running command's engine sees (spec/20_memory.md
R70), and the real functions of the document (spec/40_colorspace.md R110). -/

namespace Sys2Proof.Machine

/-! ### The invariant -/

/-- Reserved bits of STATUS and IEN read 0 (R27, R28, R39). -/
def State.reservedOk (s : State) : Bool :=
  (s.status &&& ~~~Config.statusMask) == 0#32 && (s.ien &&& ~~~Config.flagMask) == 0#32

/-- BUSY = 1 if and only if PHASE is not IDLE (R27). -/
def State.busyOk (s : State) : Bool := s.busy == (s.phase != .idle)

/-- When idle the cursor is (0, 0) (R24, R49). -/
def State.idleOk (s : State) : Bool := s.busy || (s.curx == 0#32 && s.cury == 0#32)

/-- The command has at least one stage: DITHER, PACK or RUN (R176). -/
def staged (i : Instr) : Bool := hasDither (encode i) || hasPack (encode i)

/-- The eight commands with a stage. -/
def stagedInstrs : List Instr :=
  [.ditherOrd, .ditherExt, .packDir, .packInv, .runOrdDir, .runExtDir, .runOrdInv, .runExtInv]

/-- ACTCMD holds 0 or the word of an accepted command (R37). -/
def State.actcmdOk (s : State) : Bool :=
  s.actcmd == encode .nop || stagedInstrs.any fun i => s.actcmd == encode i

/-- While BUSY the frame is legal and the cursor inside it (R49, R24), the phase is one of the command's own
(R94, R181), and STRIDE and PLEN are the frame's for a command with a pack stage (R29, R30). -/
def State.runningOk (s : State) : Bool :=
  !s.busy ||
    (s.engineReady && (if s.phase == .pack then hasPack s.actcmd else hasDither s.actcmd) &&
      (!hasPack s.actcmd ||
        (s.stride.toNat == ceil8 s.cols && s.plen.toNat == s.rows * ceil8 s.cols)))

/-- PLEN is at most MAXPIX (R30). -/
def State.plenOk (s : State) : Bool := decide (s.plen.toNat ≤ s.maxpix)

/-- The four memories are in canonical form, every listed index below MAXPIX (R40 to R43). -/
def State.memoriesOk (s : State) : Bool :=
  s.imem.wf s.maxpix && s.wbuf.wf s.maxpix && s.bmem.wf s.maxpix && s.pmem.wf s.maxpix

/-- The invariant of every state that a run from reset reaches (R27, R28, R30, R37, R49). -/
def State.inv (s : State) : Bool :=
  s.reservedOk && s.busyOk && s.idleOk && s.actcmdOk && s.runningOk && s.plenOk && s.memoriesOk

/-- Every cell of the frame lies in [-HALF, ONE + HALF] (R140). -/
def State.cellsInRange (s : State) : Prop :=
  ∀ i, i < s.cols * s.rows → -Config.half ≤ s.wbufAt i ∧ s.wbufAt i ≤ Config.one + Config.half

/-! ### What a running command depends on -/

/-- What the engine reads and writes: the state with every part blanked that the host may change while a
command runs (IEN, CSCIN, the flags and their capture registers, the bus) (R70). BUSY and PHASE stay. -/
def State.engineView (s : State) : State :=
  { s with
    status := s.status &&& 0x0000000D#32
    ien := 0#32
    errcmd := 0#32
    erraddr := 0#32
    cscin := 0#32
    pending := []
    reply := none }

/-- A host transaction other than the write of `SRST` to CMD (R13: the only host action that reaches a running
command is `SRST`). -/
def hostQuiet : Event → Bool
  | .hostRead _ => true
  | .hostWrite addr data => !(addr == regAddr .cmd && data == encode .srst)
  | .platformReset => false
  | .engineTurn => false
  | .wait => false

/-- A transaction of that kind, or a turn of the engine. -/
def quietOrTurn (e : Event) : Bool := hostQuiet e || e == .engineTurn

/-! ### The document's real functions -/

/-- `y = toLinear(x)` (R110). -/
def IsToLinear (x y : ℝ) : Prop :=
  y = if x ≤ 0.04045 then x / 12.92 else ((x + 0.055) / 1.055) ^ (2.4 : ℝ)

/-- `y = toSrgb(x)` (R110). -/
def IsToSrgb (x y : ℝ) : Prop :=
  y = if x ≤ 0.0031308 then 12.92 * x else 1.055 * x ^ (1 / 2.4 : ℝ) - 0.055

end Sys2Proof.Machine
end

