-- ==== Sys2Proof/Certificates/Slice0/Obligations.lean ====
section
/-! DEFINITION. The statements about the model. Each docstring names the rule of spec/ that the statement
formalises or rests on. -/

open Sys2Proof Sys2Proof.Machine

/-! ### Encoding -/

/-- R93: the ten words of the opcode map, each with its OPCODE, P, M and stages, and no other word decodes to a
command: every legal word is matched on all 32 bits. -/
def Obligations.OpcodeMapHasExactlyTenWords : Prop :=
  (∀ row ∈ [(Instr.nop, 0x00000000#32, 0x00#8, false, false, false, false),
      (Instr.ditherOrd, 0x01000000#32, 0x01#8, false, false, true, false),
      (Instr.ditherExt, 0x01000001#32, 0x01#8, false, true, true, false),
      (Instr.packDir, 0x02000000#32, 0x02#8, false, false, false, true),
      (Instr.packInv, 0x02000002#32, 0x02#8, true, false, false, true),
      (Instr.runOrdDir, 0x03000000#32, 0x03#8, false, false, true, true),
      (Instr.runExtDir, 0x03000001#32, 0x03#8, false, true, true, true),
      (Instr.runOrdInv, 0x03000002#32, 0x03#8, true, false, true, true),
      (Instr.runExtInv, 0x03000003#32, 0x03#8, true, true, true, true),
      (Instr.srst, 0x80000000#32, 0x80#8, false, false, false, false)],
    ∀ w : Word, w = row.2.1 →
      decode w = .ok row.1 ∧ encode row.1 = w ∧ w.extractLsb' 24 8 = row.2.2.1 ∧
      w.getLsbD 1 = row.2.2.2.1 ∧ w.getLsbD 0 = row.2.2.2.2.1 ∧
      hasDither w = row.2.2.2.2.2.1 ∧ hasPack w = row.2.2.2.2.2.2) ∧
  ∀ (w : Word) (i : Instr), decode w = .ok i ↔ w = encode i

/-- R95, R97: a word is illegal exactly when one of its fields is: ZERO not 0, an opcode outside the map, P without
a pack stage, or M without a dither stage. -/
def Obligations.WordIsIllegalExactlyWhenAFieldIs : Prop :=
  ∀ w : Word, (∃ e, decode w = .error e) ↔
    (w.extractLsb' 2 22 ≠ 0#22 ∨ w.extractLsb' 24 8 ∉ [0x00#8, 0x01#8, 0x02#8, 0x03#8, 0x80#8] ∨
      (w.getLsbD 1 = true ∧ w.extractLsb' 24 8 ∉ [0x02#8, 0x03#8]) ∨
      (w.getLsbD 0 = true ∧ w.extractLsb' 24 8 ∉ [0x01#8, 0x03#8]))

/-- R93, R97: three legal words and four illegal ones. -/
def Obligations.SomeWordsDecodeAsTheMapSays : Prop :=
  decode 0x01000001#32 = .ok .ditherExt ∧ decode 0x02000002#32 = .ok .packInv ∧
  decode 0x80000000#32 = .ok .srst ∧ decode 0x03000004#32 = .error .zeroField ∧
  decode 0x04000000#32 = .error .opcode ∧ decode 0x01000002#32 = .error .polarity ∧
  decode 0x80000001#32 = .error .method

/-! ### The step -/

/-- R26, R66, R90, R175: when the next event is the host's write of a word to CMD and the word decodes to a command,
the step is exec of that command in the state that has taken the event, answered with OK. (That the commands reach
the block through the state's list of events is the model's choice, assumption log 3.) -/
def Obligations.StepRunsTheWrittenCommand : Prop :=
  ∀ (s : State) (w : Word) (i : Instr) (rest : List Event), decode w = .ok i →
    s.pending = .hostWrite (regAddr .cmd) w :: rest →
    step s = mapNext (fun t => { t with reply := some (.write .ok) }) (exec i { s with pending := rest })

/-- R12, R180: an idle engine has no step; with no event pending, and at an engine's turn, the block's step is the
engine's. (The list of events is the model's choice, assumption log 3.) -/
def Obligations.EngineStepsWhenNoTransactionDoes : Prop :=
  ∀ s : State, (s.busy = false → engineStep s = .next s) ∧ (s.pending = [] → step s = engineStep s) ∧
    ∀ rest, s.pending = .engineTurn :: rest → step s = engineStep { s with pending := rest }

/-! ### The commands -/

/-- R177: `NOP` stores its word and sets DONE, and nothing else; while a command runs it is refused with ERR_BUSY;
and the worked example. -/
def Obligations.NopSetsDoneAndNothingElse : Prop :=
  (∀ s : State,
    (s.busy = false → exec .nop s = .next { s with actcmd := 0#32, status := s.status ||| 0x2#32 }) ∧
    (s.busy = true → exec .nop s = .next { s with errcmd := 0#32, status := s.status ||| 0x400#32 })) ∧
  exec .nop State.reset = .next { State.reset with status := 0x2#32 }

/-- R179: `SRST` gives every register its reset value, busy or idle, keeps the four memories, drops irq, and the
command that was running takes no further step. -/
def Obligations.SrstClearsRegistersAndKeepsMemories : Prop :=
  ∀ s : State, ∃ t, exec .srst s = .next t ∧
    t = { s with
      status := 0#32, ien := 0#32, width := 0#32, height := 0#32, stride := 0#32, plen := 0#32
      curx := 0#32, cury := 0#32, errcmd := 0#32, erraddr := 0#32, cscin := 0#32, actcmd := 0#32 } ∧
    t.irq = false ∧ engineStep t = .next t

/-- R176: acceptance of each of the eight commands with a stage (`DITHER.ORD`, `DITHER.EXT`, `PACK.DIR`,
`PACK.INV`, `RUN.ORD.DIR`, `RUN.EXT.DIR`, `RUN.ORD.INV`, `RUN.EXT.INV`), and its refusal with ERR_DIM: the whole
next state, whatever error flags are set. -/
def Obligations.AcceptanceStartsACommandOrRefusesTheFrame : Prop :=
  ∀ (s : State) (i : Instr), i ∈ stagedInstrs → s.busy = false →
    (0 < s.width.toInt → 0 < s.height.toInt → s.width.toInt * s.height.toInt ≤ s.maxpix →
      exec i s = .next { s with
        actcmd := encode i
        status := (s.status &&& 0xFFFFFFF0#32) ||| (if hasDither (encode i) then 0x5#32 else 0xD#32)
        curx := 0#32
        cury := 0#32
        stride := if hasPack (encode i) then BitVec.ofInt 32 ((s.width.toInt + 7) / 8) else s.stride
        plen := if hasPack (encode i) then BitVec.ofInt 32 (s.height.toInt * ((s.width.toInt + 7) / 8))
          else s.plen }) ∧
    (s.width.toInt ≤ 0 ∨ s.height.toInt ≤ 0 ∨ s.maxpix < s.width.toInt * s.height.toInt →
      exec i s = .next { s with errcmd := encode i, status := s.status ||| 0x100#32 })

/-- R175, R178, R223, R254: while a command runs every word but `SRST`'s, legal or not, is refused with ERR_BUSY and
changes only the flag and ERRCMD. -/
def Obligations.BusyBlockRefusesEveryWordButSrst : Prop :=
  ∀ (s : State) (w : Word), s.busy = true → w ≠ 0x80000000#32 →
    command w s = .next { s with errcmd := w, status := s.status ||| 0x400#32 }

/-! ### Errors and the interrupt line -/

/-- R220: each raise sets the flag whose code is its bit position, writes the capture register and changes nothing
else; a refused bus access answers ERR, with data 0 for a read; a refused command is answered OK (its response is the
write's); the engine's own steps raise nothing. -/
def Obligations.RaisingAnErrorWritesFlagAndCaptureOnly : Prop :=
  (∀ (s : State) (w : Word) (a : BusAddr),
    s.raise .dim (.command w) = { s with errcmd := w, status := s.status ||| 0x100#32 } ∧
    s.raise .cmd (.command w) = { s with errcmd := w, status := s.status ||| 0x200#32 } ∧
    s.raise .busy (.command w) = { s with errcmd := w, status := s.status ||| 0x400#32 } ∧
    s.raise .busy (.access a) = { s with erraddr := a.setWidth 32, status := s.status ||| 0x400#32 } ∧
    s.raise .addr (.access a) = { s with erraddr := a.setWidth 32, status := s.status ||| 0x800#32 } ∧
    (∀ k, (refuseRead k a s).reply = some (.read .err 0#32) ∧ (refuseWrite k a s).reply = some (.write .err)) ∧
    ∃ t, hostWrite (regAddr .cmd) w s = .next t ∧ t.reply = some (.write .ok)) ∧
  ∀ (s t : State) (k : ErrKind), engineStep s = .next t → t.errFlag k = s.errFlag k

/-- R221: DimError is raised by a command with a stage, while idle, on exactly the illegal frames: on a legal frame the
flag stays as it was. Writing WIDTH or HEIGHT raises nothing, `NOP` and `SRST` never raise it, and no event but the
write of such a command to CMD, while idle and with an illegal frame, turns the flag from 0 to 1. -/
def Obligations.DimErrorComesFromStagedCommandsOnly : Prop :=
  (∀ (s : State) (i : Instr), i ∈ stagedInstrs → s.busy = false →
    ((s.width.toInt ≤ 0 ∨ s.height.toInt ≤ 0 ∨ s.maxpix < s.width.toInt * s.height.toInt) →
      exec i s = .next { s with errcmd := encode i, status := s.status ||| 0x100#32 }) ∧
    (¬ (s.width.toInt ≤ 0 ∨ s.height.toInt ≤ 0 ∨ s.maxpix < s.width.toInt * s.height.toInt) →
      ∃ t, exec i s = .next t ∧ t.errFlag .dim = s.errFlag .dim ∧ t.errcmd = s.errcmd)) ∧
  (∀ (s : State) (d : Word), s.busy = false →
    hostWrite (regAddr .width) d s = .next { s with width := d, reply := some (.write .ok) } ∧
    hostWrite (regAddr .height) d s = .next { s with height := d, reply := some (.write .ok) }) ∧
  (∀ (s : State), ∃ t u, exec .nop s = .next t ∧ exec .srst s = .next u ∧
    t.errFlag .dim = s.errFlag .dim ∧ u.errFlag .dim = false) ∧
  ∀ (s t : State) (e : Event), runEvent e s = .next t → s.errFlag .dim = false → t.errFlag .dim = true →
    s.busy = false ∧ (s.width.toInt ≤ 0 ∨ s.height.toInt ≤ 0 ∨ s.maxpix < s.width.toInt * s.height.toInt) ∧
    ∃ i ∈ stagedInstrs, e = .hostWrite (regAddr .cmd) (encode i)

/-- R222: CmdError: an illegal word written while idle sets ERR_CMD, is captured in ERRCMD, and changes nothing
else. -/
def Obligations.IllegalWordWhileIdleSetsErrCmd : Prop :=
  ∀ (s : State) (w : Word) (e : DecodeError), decode w = .error e → s.busy = false →
    command w s = .next { s with errcmd := w, status := s.status ||| 0x200#32 }

/-- R224: AddrError is raised exactly on the addresses the rule lists, busy or idle, by reads and writes. -/
def Obligations.AddrErrorOnExactlyTheUnmappedAddresses : Prop :=
  ∀ (s : State) (addr : BusAddr) (d : Word) (region off : Nat),
    region = addr.toNat / 2 ^ 24 → off = addr.toNat % 2 ^ 24 →
    ((addr.toNat % 4 ≠ 0 ∨ 5 ≤ region ∨ (region = 0 ∧ 0x40 < off) ∨
        (1 ≤ region ∧ region ≤ 3 ∧ s.maxpix ≤ off / 4) ∨ (region = 4 ∧ s.maxpix / 4 ≤ off / 4)) →
      hostRead addr s = { s with
        erraddr := addr.setWidth 32, status := s.status ||| 0x800#32, reply := some (.read .err 0#32) } ∧
      hostWrite addr d s = .next { s with
        erraddr := addr.setWidth 32, status := s.status ||| 0x800#32, reply := some (.write .err) }) ∧
    (¬ (addr.toNat % 4 ≠ 0 ∨ 5 ≤ region ∨ (region = 0 ∧ 0x40 < off) ∨
        (1 ≤ region ∧ region ≤ 3 ∧ s.maxpix ≤ off / 4) ∨ (region = 4 ∧ s.maxpix / 4 ≤ off / 4)) →
      s.errFlag .addr = false →
      (hostRead addr s).errFlag .addr = false ∧
      ∃ t, hostWrite addr d s = .next t ∧ t.errFlag .addr = false)

/-- R228: one transaction raises at most one error. -/
def Obligations.OneTransactionRaisesAtMostOneError : Prop :=
  ∀ (s : State) (addr : BusAddr) (d : Word) (k k' : ErrKind),
    (s.errFlag k = false → s.errFlag k' = false →
      (hostRead addr s).errFlag k = true → (hostRead addr s).errFlag k' = true → k = k') ∧
    ∃ t, hostWrite addr d s = .next t ∧
      (s.errFlag k = false → s.errFlag k' = false → t.errFlag k = true → t.errFlag k' = true → k = k')

/-- R28, R46: a write of IEN stores the five enable bits and nothing else, busy or idle, and irq is 1 exactly when a
STATUS bit among them is set with its enable. -/
def Obligations.IenMasksItsWriteAndEnablesIrq : Prop :=
  (∀ (s : State) (d : Word), ∃ t, hostWrite (regAddr .ien) d s = .next t ∧
    t = { s with ien := t.ien, reply := some (.write .ok) } ∧
    ∀ i, t.ien.getLsbD i = (d.getLsbD i && [1, 8, 9, 10, 11].contains i)) ∧
  ∀ s : State, s.irq = true ↔ ∃ i ∈ [1, 8, 9, 10, 11], s.status.getLsbD i = true ∧ s.ien.getLsbD i = true

/-- R27, R66, R230: a write of STATUS clears exactly the bits among {1, 8, 9, 10, 11} at which the data has a 1; the
capture registers, BUSY, PHASE and all else stay. -/
def Obligations.StatusWriteClearsExactlyTheFlagsWritten : Prop :=
  ∀ (s : State) (d : Word), ∃ t, hostWrite (regAddr .status) d s = .next t ∧
    t = { s with status := t.status, reply := some (.write .ok) } ∧
    ∀ i, t.status.getLsbD i = (s.status.getLsbD i && !(d.getLsbD i && [1, 8, 9, 10, 11].contains i))

/-! ### Registers, windows and the lock -/

/-- R65: what a read of each register returns; the read changes nothing, busy or idle. -/
def Obligations.RegisterReadsReturnTheirWords : Prop :=
  ∀ s : State, ∀ row ∈ [(0x00#28, 0x44453031#32), (0x04#28, 0#32), (0x08#28, s.status), (0x0C#28, s.ien),
      (0x10#28, s.width), (0x14#28, s.height), (0x18#28, s.stride), (0x1C#28, s.plen), (0x20#28, s.curx),
      (0x24#28, s.cury), (0x28#28, s.errcmd), (0x2C#28, s.erraddr), (0x30#28, s.cscin), (0x34#28, s.csclin),
      (0x38#28, s.cscsrgb), (0x3C#28, BitVec.ofNat 32 s.maxpix), (0x40#28, s.actcmd)],
    hostRead row.1 s = { s with reply := some (.read .ok row.2) }

/-- R25, R66: a write to a read-only register is ignored and answered OK; CSCIN stores the word, busy or idle. -/
def Obligations.ReadOnlyRegistersIgnoreWrites : Prop :=
  ∀ (s : State) (d : Word),
    (∀ r ∈ [Reg.id, .stride, .plen, .curx, .cury, .errcmd, .erraddr, .csclin, .cscsrgb, .cap, .actcmd],
      hostWrite (regAddr r) d s = .next { s with reply := some (.write .ok) }) ∧
    hostWrite (regAddr .cscin) d s = .next { s with cscin := d, reply := some (.write .ok) }

/-- R63: each register and each memory element within the capacity is reached at its address. -/
def Obligations.AddressMapReachesEveryElement : Prop :=
  ∀ s : State, (∀ r, addrTarget s.maxpix (regAddr r) = some (.reg r)) ∧
    (∀ i, i < s.maxpix → addrTarget s.maxpix (imemAddr i) = some (.imem i) ∧
      addrTarget s.maxpix (bmemAddr i) = some (.bmem i) ∧ addrTarget s.maxpix (wbufAddr i) = some (.wbuf i)) ∧
    ∀ j, j < s.maxpix / 4 → addrTarget s.maxpix (pmemAddr j) = some (.pmem j)

/-- R67: the IMEM window stores the data clamped to 0 to 255, the BMEM window its bit 0, with no flag and every
other element as before; reads return the element zero-extended. -/
def Obligations.ImemAndBmemWindowsStoreOneElement : Prop :=
  ∀ (s : State) (i : Nat) (d : Word), i < s.maxpix → s.busy = false →
    (∃ t, hostWrite (imemAddr i) d s = .next t ∧
      t = { s with imem := t.imem, reply := some (.write .ok) } ∧
      (d.toInt < 0 → t.imemAt i = 0#8) ∧ (255 < d.toInt → t.imemAt i = 255#8) ∧
      (0 ≤ d.toInt → d.toInt ≤ 255 → ((t.imemAt i).toNat : Int) = d.toInt) ∧
      ∀ j, j ≠ i → t.imemAt j = s.imemAt j) ∧
    (∃ t, hostWrite (bmemAddr i) d s = .next t ∧
      t = { s with bmem := t.bmem, reply := some (.write .ok) } ∧
      (t.bmemAt i).getLsbD 0 = d.getLsbD 0 ∧ ∀ j, j ≠ i → t.bmemAt j = s.bmemAt j) ∧
    hostRead (imemAddr i) s = { s with reply := some (.read .ok (BitVec.ofNat 32 (s.imemAt i).toNat)) } ∧
    hostRead (bmemAddr i) s = { s with reply := some (.read .ok (BitVec.ofNat 32 (s.bmemAt i).toNat)) }

/-- R68: the WBUF window reads the cell sign-extended and ignores writes, answered OK. -/
def Obligations.WbufWindowReadsSignExtended : Prop :=
  ∀ (s : State) (i : Nat) (d : Word), i < s.maxpix → s.busy = false →
    hostRead (wbufAddr i) s = { s with reply := some (.read .ok (BitVec.ofInt 32 (s.wbufAt i))) } ∧
    hostWrite (wbufAddr i) d s = .next { s with reply := some (.write .ok) }

/-- R69: a read of word j of PMEM returns its four bytes, PMEM[4j] in bits 7:0; a write is ignored, answered OK. -/
def Obligations.PmemWindowIsLittleEndianAndReadOnly : Prop :=
  ∀ (s : State) (j : Nat) (d : Word), j < s.maxpix / 4 → s.busy = false →
    (∃ w : Word, hostRead (pmemAddr j) s = { s with reply := some (.read .ok w) } ∧
      w.extractLsb' 0 8 = s.pmemAt (4 * j) ∧ w.extractLsb' 8 8 = s.pmemAt (4 * j + 1) ∧
      w.extractLsb' 16 8 = s.pmemAt (4 * j + 2) ∧ w.extractLsb' 24 8 = s.pmemAt (4 * j + 3)) ∧
    hostWrite (pmemAddr j) d s = .next { s with reply := some (.write .ok) }

/-- R70: while BUSY every access to regions 1 to 4 within the capacity and every write of WIDTH or HEIGHT is refused
with ERR_BUSY and changes nothing else; register reads and writes of CMD, STATUS, IEN and CSCIN are answered OK. -/
def Obligations.LockRefusesWindowsAndDimensionsWhileBusy : Prop :=
  ∀ (s : State) (d : Word), s.busy = true →
    (∀ addr : BusAddr,
      (∃ i, i < s.maxpix ∧ (addr = imemAddr i ∨ addr = bmemAddr i ∨ addr = wbufAddr i)) ∨
        (∃ j, j < s.maxpix / 4 ∧ addr = pmemAddr j) →
      hostRead addr s = { s with
        erraddr := addr.setWidth 32, status := s.status ||| 0x400#32, reply := some (.read .err 0#32) } ∧
      hostWrite addr d s = .next { s with
        erraddr := addr.setWidth 32, status := s.status ||| 0x400#32, reply := some (.write .err) }) ∧
    (∀ r ∈ [Reg.width, .height], hostWrite (regAddr r) d s = .next { s with
      erraddr := (regAddr r).setWidth 32, status := s.status ||| 0x400#32, reply := some (.write .err) }) ∧
    (∀ r, hostRead (regAddr r) s = { s with reply := some (.read .ok (regRead r s)) }) ∧
    ∀ r ∈ [Reg.cmd, .status, .ien, .cscin], ∃ t, hostWrite (regAddr r) d s = .next t ∧
      t.reply = some (.write .ok)

/-- R99, R100: the k-th transaction of LOADIMG and LOADBIN, and the transactions of SETDIM, CLRSTAT and CMD. -/
def Obligations.HostStatementsExpandToTheirTransactions : Prop :=
  (∀ (l : List Word) (k : Nat) (v : Word), l[k]? = some v →
    (stmtEvents (.loadImg l))[k]? = some (.hostWrite (BitVec.ofNat 28 (0x1000000 + 4 * k)) v) ∧
    (stmtEvents (.loadBin l))[k]? = some (.hostWrite (BitVec.ofNat 28 (0x2000000 + 4 * k)) v)) ∧
  (∀ l : List Word, (stmtEvents (.loadImg l)).length = l.length ∧ (stmtEvents (.loadBin l)).length = l.length) ∧
  (∀ w h : Word, stmtEvents (.setDim w h) = [.hostWrite 0x0000010#28 w, .hostWrite 0x0000014#28 h]) ∧
  stmtEvents .clrStat = [.hostWrite 0x0000008#28 0x00000F02#32] ∧
  ∀ i, stmtEvents (.cmd i) = [.hostWrite 0x0000004#28 (encode i)]

/-! ### Reset -/

/-- R38, R48: what the registers read after reset, with irq low and the block idle. (That MAXPIX is 65536 there is the
model's choice, assumption log 2; the statement names no value of it.) -/
def Obligations.RegistersReadTheirResetValues : Prop :=
  (∀ r, regRead r State.reset =
    if r = .id then 0x44453031#32 else if r = .cap then BitVec.ofNat 32 State.reset.maxpix else 0#32) ∧
  State.reset.irq = false ∧ State.reset.busy = false ∧ State.reset.done = false ∧ State.reset.phase = .idle

/-- R250, R251: the platform's Reset gives every register its reset value in any state, abandons a running command,
and leaves every memory element a free value, where `SRST` keeps it. (How the free values are named is the model's
choice, assumption log 1.) -/
def Obligations.PlatformResetClearsRegistersAndFreesMemories : Prop :=
  ∀ s : State, ∃ t u, runEvent .platformReset s = .next t ∧ exec .srst s = .next u ∧
    (∀ r, regRead r t = regRead r u) ∧ t.status = 0#32 ∧ t.irq = false ∧ engineStep t = .next t ∧
    t.pending = s.pending ∧ t.capQuads = s.capQuads ∧
    ∀ i, t.imemAt i = Config.freeImem (s.epoch + 1) i ∧ t.wbufCell i = Config.freeWbuf (s.epoch + 1) i ∧
      t.bmemAt i = Config.freeBmem (s.epoch + 1) i ∧ t.pmemAt i = Config.freePmem (s.epoch + 1) i ∧
      u.imemAt i = s.imemAt i ∧ u.wbufCell i = s.wbufCell i ∧ u.bmemAt i = s.bmemAt i ∧ u.pmemAt i = s.pmemAt i

/-! ### The colorspace converter -/

/-- R114: the ends of `LIN`, its strict increase, its smallest step, and where it crosses HALF. -/
def Obligations.LinTableIncreasesFromZeroToOne : Prop :=
  lin 0 = 0 ∧ lin 255 = 65280 ∧ (∀ c, c < 255 → lin c + 19 ≤ lin (c + 1)) ∧
  (∀ c, c < 255 → (lin c + 19 = lin (c + 1) ↔ c = 2 ∨ c = 8)) ∧ ∀ c, c < 256 → (lin c ≤ 32640 ↔ c ≤ 187)

/-- R115: `SRGB(v)` reaches `k` exactly when the threshold `T[k]` is not above `v`. -/
def Obligations.SrgbReachesCodeAtItsThreshold : Prop :=
  ∀ v k : Nat, 1 ≤ k → k ≤ 255 → (k ≤ srgb v ↔ threshold k ≤ v)

/-- R117: `SRGB` is non-decreasing, from 0 at 0 to 255 at ONE, and the round trip on codes is exact. -/
def Obligations.SrgbInvertsLinOnCodes : Prop :=
  srgb 0 = 0 ∧ srgb 65280 = 255 ∧ (∀ v w : Nat, v ≤ w → srgb v ≤ srgb w) ∧ ∀ c, c < 256 → srgb (lin c) = c

/-- R118: after CSCIN is written, a read of CSCLIN returns `LIN` of the word clamped to 0 to 255 and a read of CSCSRGB
returns `SRGB` of it clamped to 0 to ONE, busy or idle, with no side effect; and the worked example. -/
def Obligations.LookupPortEvaluatesBothFunctions : Prop :=
  (∀ (s : State) (d : Word), ∃ t, hostWrite (regAddr .cscin) d s = .next t ∧
    hostRead (regAddr .csclin) t = { t with
      reply := some (.read .ok (BitVec.ofNat 32 (lin (max 0 (min d.toInt 255)).toNat))) } ∧
    hostRead (regAddr .cscsrgb) t = { t with
      reply := some (.read .ok (BitVec.ofNat 32 (srgb (max 0 (min d.toInt 65280)).toNat))) }) ∧
  lin 128 = 14091 ∧ srgb 14091 = 128 ∧ lin 0 = 0 ∧ srgb 0 = 0 ∧ lin 255 = 65280 ∧ srgb 300 = 15 ∧
  srgb 65280 = 255

/-- R112: every entry of `LIN` is ONE times the document's real `toLinear` at `c / 255`, rounded half up; the range;
and which codes lie on the first branch. -/
def Obligations.LinIsTheRoundedRealFunction : Prop :=
  (∀ (c : Nat) (y : ℝ), c < 256 → IsToLinear ((c : ℝ) / 255) y → (lin c : ℤ) = ⌊(65280 : ℝ) * y + 1 / 2⌋) ∧
  (∀ c, c < 256 → lin c ≤ 65280) ∧ (∀ c : Nat, c < 256 → ((c : ℝ) / 255 ≤ 0.04045 ↔ c ≤ 10)) ∧ lin 128 = 14091

/-- R115: `SRGB(v)` is 255 times the document's real `toSrgb` at `v / ONE`, rounded half up and clamped, and `T[k]` is
the least `v` at which the rounded value reaches `k`; where it reaches 255, and the worked example. -/
def Obligations.SrgbIsTheRoundedRealFunction : Prop :=
  (∀ (v : Nat) (y : ℝ), v ≤ 65280 → IsToSrgb ((v : ℝ) / 65280) y →
    (srgb v : ℤ) = max 0 (min ⌊255 * y + 1 / 2⌋ 255) ∧
    ∀ k : Nat, 1 ≤ k → k ≤ 255 → ((k : ℤ) ≤ ⌊255 * y + 1 / 2⌋ ↔ threshold k ≤ v)) ∧
  (∀ k, 1 ≤ k → k ≤ 255 → threshold k ≤ 65280) ∧ threshold 255 = 64990 ∧ threshold 128 = 13973 ∧
  threshold 129 = 14211 ∧ srgb 14091 = 128

/-! ### The engine's steps -/

/-- R24, R181, R182: the cursor after an engine step, and at the end of a phase the next phase or completion (BUSY 0,
DONE 1, PHASE IDLE, ACTCMD kept, irq if DONE is enabled); the rest of STATUS stays. -/
def Obligations.EngineStepAdvancesCursorAndPhases : Prop :=
  ∀ s t : State, s.busy = true → engineStep s = .next t →
    (s.x + 1 < s.limit → t.x = s.x + 1 ∧ t.y = s.y ∧ t.status = s.status) ∧
    (s.x + 1 = s.limit → s.y + 1 < s.rows → t.x = 0 ∧ t.y = s.y + 1 ∧ t.status = s.status) ∧
    (s.x + 1 = s.limit → s.y + 1 = s.rows →
      t.x = 0 ∧ t.y = 0 ∧ t.actcmd = s.actcmd ∧
      t.status &&& 0xFFFFFFF2#32 = (s.status &&& 0xFFFFFFF2#32) ||| (if t.busy then 0#32 else 0x2#32) ∧
      (s.phase = .seed → t.phase = .diffuse ∧ t.busy = true) ∧
      (s.phase = .diffuse → hasPack s.actcmd = true → t.phase = .pack ∧ t.busy = true) ∧
      (s.phase = .diffuse → hasPack s.actcmd = false → t.phase = .idle ∧ t.busy = false) ∧
      (s.phase = .pack → t.phase = .idle ∧ t.busy = false) ∧
      (t.busy = false → t.done = true ∧ (s.ien.getLsbD 1 = true → t.irq = true)))

/-- R131: one SEED step completes and writes the one cell at the cursor, `256 * IMEM[i]` for ORD and `LIN[IMEM[i]]`
for EXT; beside it only the cursor and STATUS change. -/
def Obligations.SeedStepSeedsOneCell : Prop :=
  ∀ s : State, s.busy = true → s.engineReady = true → s.phase = .seed →
    ∃ t, engineStep s = .next t ∧
      (s.method = .ord → t.wbufAt s.cursorIndex = 256 * ((s.imemAt s.cursorIndex).toNat : Int)) ∧
      (s.method = .ext → t.wbufAt s.cursorIndex = (lin (s.imemAt s.cursorIndex).toNat : Int)) ∧
      (∀ j, j ≠ s.cursorIndex → t.wbufAt j = s.wbufAt j) ∧
      t = { s with status := t.status, curx := t.curx, cury := t.cury, wbuf := t.wbuf }

/-- R132 to R136: one ORD visit completes on cells in range: the bit is the strict comparison with HALF, each cell of
the frame gains the share of its offset from the visited pixel, cells outside the frame keep their value (so a share
outside is dropped), and beside WBUF and BMEM only the cursor and STATUS change. -/
def Obligations.OrdVisitDecidesAndDepositsFourShares : Prop :=
  ∀ (s : State) (v e : Int), s.busy = true → s.engineReady = true → s.phase = .diffuse → s.method = .ord →
    s.cellsInRange → v = s.wbufAt s.cursorIndex → e = v - (if 32640 < v then 65280 else 0) →
    ∃ t, engineStep s = .next t ∧
      t.bmemAt s.cursorIndex = (if 32640 < v then 1#1 else 0#1) ∧
      (∀ j, j ≠ s.cursorIndex → t.bmemAt j = s.bmemAt j) ∧
      (∀ a b : Nat, a < s.cols → b < s.rows →
        t.wbufAt (b * s.cols + a) = s.wbufAt (b * s.cols + a) + ordShareAt e ((a : Int) - s.x) ((b : Int) - s.y)) ∧
      (∀ j, s.cols * s.rows ≤ j → t.wbufAt j = s.wbufAt j) ∧
      t = { s with status := t.status, curx := t.curx, cury := t.cury, wbuf := t.wbuf, bmem := t.bmem }

/-- R132 to R135, R137: one EXT visit, as the ORD one with the six equal shares of the Atkinson kernel. -/
def Obligations.ExtVisitDecidesAndDepositsSixShares : Prop :=
  ∀ (s : State) (v e : Int), s.busy = true → s.engineReady = true → s.phase = .diffuse → s.method = .ext →
    s.cellsInRange → v = s.wbufAt s.cursorIndex → e = v - (if 32640 < v then 65280 else 0) →
    ∃ t, engineStep s = .next t ∧
      t.bmemAt s.cursorIndex = (if 32640 < v then 1#1 else 0#1) ∧
      (∀ j, j ≠ s.cursorIndex → t.bmemAt j = s.bmemAt j) ∧
      (∀ a b : Nat, a < s.cols → b < s.rows →
        t.wbufAt (b * s.cols + a) = s.wbufAt (b * s.cols + a) + extShareAt e ((a : Int) - s.x) ((b : Int) - s.y)) ∧
      (∀ j, s.cols * s.rows ≤ j → t.wbufAt j = s.wbufAt j) ∧
      t = { s with status := t.status, curx := t.curx, cury := t.cury, wbuf := t.wbuf, bmem := t.bmem }

/-- R161, R162: one PACK step completes and writes the one byte at the cursor: pixel `8b + p` in bit `7 - p`, through
the polarity, padding 0; beside it only the cursor and STATUS change. -/
def Obligations.PackStepWritesOneByteMsbFirst : Prop :=
  ∀ s : State, s.busy = true → s.engineReady = true → s.phase = .pack →
    ∃ t, engineStep s = .next t ∧
      (∀ p, p < 8 → (t.pmemAt (s.y * s.stride.toNat + s.x)).getLsbD (7 - p) =
        bitval s.polarity s.cols s.bmemAt s.y (8 * s.x + p)) ∧
      (∀ j, j ≠ s.y * s.stride.toNat + s.x → t.pmemAt j = s.pmemAt j) ∧
      t = { s with status := t.status, curx := t.curx, cury := t.cury, pmem := t.pmem }

/-- R8: `tdiv` is the quotient truncated toward zero: the remainder is smaller than the divisor and has the sign of
the dividend. -/
def Obligations.TdivTruncatesTowardZero : Prop :=
  ∀ a n : Int, 0 < n → ∃ r, a = n * tdiv a n + r ∧ |r| < n ∧ (0 ≤ a → 0 ≤ r) ∧ (a ≤ 0 → r ≤ 0)

/-- R141: what one visit with every neighbour in bounds deposits in total, against its error. -/
def Obligations.DepositedTotalIsTheErrorUpToTruncation : Prop :=
  ∀ e d : Int, d = tdiv (7 * e) 16 + tdiv (3 * e) 16 + tdiv (5 * e) 16 + tdiv e 16 →
    (0 ≤ e → 0 ≤ d) ∧ (e ≤ 0 → d ≤ 0) ∧ |d| ≤ |e| ∧ |e| - |d| < 4 ∧ (16 ∣ e → d = e) ∧
    (8 ∣ e → 8 * (6 * tdiv e 8) = 6 * e) ∧ |6 * e - 8 * (6 * tdiv e 8)| < 48 ∧ |8 * (6 * tdiv e 8)| ≤ |6 * e|

/-! ### Whole commands -/

/-- R187: an accepted command completes after exactly N engine steps, N at least 1, is busy before each of them, and
ends idle with DONE, at cursor (0, 0); in particular no step of it stops. -/
def Obligations.CommandCompletesAfterExactlyItsSteps : Prop :=
  ∀ (s : State) (i : Instr) (n : Nat), s.busy = false → s.frameLegal = true → i ∈ stagedInstrs →
    n = (if hasDither (encode i) then 2 * (s.cols * s.rows) else 0) +
      (if hasPack (encode i) then s.rows * ((s.cols + 7) / 8) else 0) →
    1 ≤ n ∧ ∃ u t, exec i s = .next u ∧ engineRun n u = .next t ∧
      t.busy = false ∧ t.done = true ∧ t.phase = .idle ∧ t.curx = 0#32 ∧ t.cury = 0#32 ∧
      t.actcmd = encode i ∧ ∀ k, k < n → ∃ v, engineRun k u = .next v ∧ v.busy = true

/-- R140: during and after a dither stage every cell of the frame lies in [-HALF, ONE + HALF] and has an error of at
most HALF; during SEED the cells seeded so far lie in [0, ONE]. -/
def Obligations.DitherStageKeepsCellsInRange : Prop :=
  ∀ (s u t : State) (i : Instr) (k : Nat), s.busy = false → s.frameLegal = true → hasDither (encode i) = true →
    exec i s = .next u → engineRun k u = .next t →
    (t.phase = .seed → ∀ j, j < t.cursorIndex → 0 ≤ t.wbufAt j ∧ t.wbufAt j ≤ 65280) ∧
    (t.phase ≠ .seed → t.cellsInRange ∧
      ∀ j, j < s.cols * s.rows → -32640 ≤ quantError (t.wbufAt j) ∧ quantError (t.wbufAt j) ≤ 32640)

/-- R142, R143: after the 2 * W * H steps of its dither stage a command has left, in every cell and bit of the frame,
the value and the decision of the gather form; elements outside the frame, IMEM, PMEM, STRIDE and PLEN are as
acceptance left them. -/
def Obligations.DitherStageLeavesTheGatherForm : Prop :=
  ∀ (s : State) (i : Instr) (m : Method) (seed : Nat → Int), s.busy = false → s.frameLegal = true →
    hasDither (encode i) = true → m = (if (encode i).getLsbD 0 then .ext else .ord) →
    (∀ j, seed j = if m = .ord then 256 * ((s.imemAt j).toNat : Int) else (lin (s.imemAt j).toNat : Int)) →
    ∃ u t, exec i s = .next u ∧ engineRun (2 * (s.cols * s.rows)) u = .next t ∧
      (∀ j, j < s.cols * s.rows →
        t.wbufAt j = gatherValue m s.cols s.rows seed j ∧
        t.bmemAt j = (if 32640 < gatherValue m s.cols s.rows seed j then 1#1 else 0#1)) ∧
      (∀ j, s.cols * s.rows ≤ j → t.wbufAt j = s.wbufAt j ∧ t.bmemAt j = s.bmemAt j) ∧
      t.imem = s.imem ∧ t.pmem = s.pmem ∧ t.stride = u.stride ∧ t.plen = u.plen

/-- R165: what a `PACK` command leaves: STRIDE, PLEN, every byte of the bitmap bit by bit, every other byte and every
other memory as before. -/
def Obligations.PackCommandLeavesThePackedBitmap : Prop :=
  ∀ (s : State) (i : Instr) (pol : Polarity), s.busy = false → s.frameLegal = true →
    (i = .packDir ∧ pol = .dir) ∨ (i = .packInv ∧ pol = .inv) →
    ∃ u t, exec i s = .next u ∧ engineRun (s.rows * ((s.cols + 7) / 8)) u = .next t ∧ t.busy = false ∧
      t.stride.toNat = (s.cols + 7) / 8 ∧ t.plen.toNat = s.rows * ((s.cols + 7) / 8) ∧
      (∀ r b p, r < s.rows → b < (s.cols + 7) / 8 → p < 8 →
        (t.pmemAt (r * ((s.cols + 7) / 8) + b)).getLsbD (7 - p) = bitval pol s.cols s.bmemAt r (8 * b + p)) ∧
      (∀ j, s.rows * ((s.cols + 7) / 8) ≤ j → t.pmemAt j = s.pmemAt j) ∧
      t = { s with status := t.status, actcmd := encode i, curx := 0#32, cury := 0#32, stride := t.stride,
                   plen := t.plen, pmem := t.pmem }

/-- R183 to R186: a `RUN` command ends in the state that its `DITHER` command and then its `PACK` command leave, but
for ACTCMD. -/
def Obligations.RunEqualsDitherThenPack : Prop :=
  ∀ (s : State), s.busy = false → s.frameLegal = true →
    ∀ row ∈ [(Instr.runOrdDir, Instr.ditherOrd, Instr.packDir), (.runExtDir, .ditherExt, .packDir),
      (.runOrdInv, .ditherOrd, .packInv), (.runExtInv, .ditherExt, .packInv)],
    ∃ u t u1 t1 u2 t2,
      exec row.1 s = .next u ∧
      engineRun (2 * (s.cols * s.rows) + s.rows * ((s.cols + 7) / 8)) u = .next t ∧
      exec row.2.1 s = .next u1 ∧ engineRun (2 * (s.cols * s.rows)) u1 = .next t1 ∧ t1.busy = false ∧
      exec row.2.2 t1 = .next u2 ∧ engineRun (s.rows * ((s.cols + 7) / 8)) u2 = .next t2 ∧ t2.busy = false ∧
      t = { t2 with actcmd := encode row.1 }

/-- R13, R143: the result of a command is a function of WIDTH, HEIGHT, the command word and the codes (for a dither
stage) or bits (for a pack stage alone) of the frame, whatever else the two states hold, their capacity included. -/
def Obligations.ResultDependsOnItsInputsOnly : Prop :=
  ∀ (a b ua ub ta tb : State) (i : Instr) (n : Nat), i ∈ stagedInstrs →
    a.busy = false → b.busy = false → a.frameLegal = true → b.frameLegal = true →
    a.width = b.width → a.height = b.height →
    (hasDither (encode i) = true → ∀ j, j < a.cols * a.rows → a.imemAt j = b.imemAt j) →
    (hasDither (encode i) = false → ∀ j, j < a.cols * a.rows → a.bmemAt j = b.bmemAt j) →
    n = commandSteps (encode i) a →
    exec i a = .next ua → exec i b = .next ub → engineRun n ua = .next ta → engineRun n ub = .next tb →
    (hasDither (encode i) = true →
      ∀ j, j < a.cols * a.rows → ta.wbufAt j = tb.wbufAt j ∧ ta.bmemAt j = tb.bmemAt j) ∧
    (hasPack (encode i) = true → ta.stride = tb.stride ∧ ta.plen = tb.plen ∧
      ∀ j, j < ta.plen.toNat → ta.pmemAt j = tb.pmemAt j)

/-- R13, R70: while a command runs, a host transaction other than the write of `SRST` to CMD leaves everything the
engine reads and writes as it was. -/
def Obligations.HostCannotDisturbARunningCommand : Prop :=
  ∀ (s : State) (e : Event), s.busy = true → hostQuiet e = true →
    ∃ t, runEvent e s = .next t ∧ t.engineView = s.engineView

/-- R12, R13, R75: any interleaving of host transactions (but `SRST`) with k engine turns leaves the engine where k
engine steps alone leave it: while the command still runs, and where the last event is the turn that completes it, so
that the final contents do not depend on the interleaving; DONE is then 1. (The list of events is the model's choice,
assumption log 3.) -/
def Obligations.InterleavingDoesNotChangeARunningCommand : Prop :=
  ∀ (s u : State) (l : List Event), s.busy = true → (∀ e ∈ l, quietOrTurn e = true) →
    engineRun (l.count .engineTurn) s = .next u →
    (u.busy = true ∨ ∃ l', l = l' ++ [.engineTurn] ∧
      ∀ v, engineRun (l'.count .engineTurn) s = .next v → v.busy = true) →
    ∃ t, Host.Core.run Sys2Proof.core l.length { s with pending := l } = .next t ∧
      t.engineView = u.engineView ∧ (u.busy = false → t.busy = false ∧ t.done = true)

/-- R100, R187: a `WAIT` after an accepted command ends: after the command's steps and one poll, the host has read
STATUS with BUSY = 0 and DONE = 1, and the events after it stand next. (That the polls while busy are not separate
steps is the model's choice, assumption log 3.) -/
def Obligations.WaitEndsWithTheCommand : Prop :=
  ∀ (s u : State) (i : Instr) (rest : List Event), s.busy = false → s.frameLegal = true → i ∈ stagedInstrs →
    exec i s = .next u →
    ∃ t, Host.Core.run Sys2Proof.core (commandSteps (encode i) s + 1) { u with pending := .wait :: rest } = .next t ∧
      t.busy = false ∧ t.done = true ∧ t.pending = rest ∧ t.reply = some (.read .ok t.status)

/-! ### The whole machine -/

/-- R27, R37, R39, R48, R49: the invariant holds after reset, whatever the capacity and the events to come. -/
def Obligations.ResetSatisfiesTheInvariant : Prop :=
  ∀ (q : Fin 1048576) (l : List Event), { State.reset with capQuads := q, pending := l }.inv = true

/-- R24, R27, R28, R30, R37, R39, R49: every step keeps the invariant: reserved bits 0, BUSY exactly when PHASE is not
IDLE, an idle cursor (0, 0), ACTCMD 0 or an accepted word, a running command's frame legal with its cursor inside and
its stride, PLEN at most MAXPIX, and all four memories canonical and within the capacity. -/
def Obligations.EveryStepKeepsTheInvariant : Prop :=
  ∀ s t : State, s.inv = true → step s = .next t → t.inv = true

/-- R6, R36, R47: MAXPIX is a multiple of 4 from 4 to 2^22 in every state and no step changes it. (That a state
carries it is the model's choice, assumption log 2.) -/
def Obligations.NoStepChangesTheCapacity : Prop :=
  ∀ s : State, 4 ≤ s.maxpix ∧ s.maxpix ≤ 4194304 ∧ 4 ∣ s.maxpix ∧
    ∀ t, step s = .next t → t.maxpix = s.maxpix

/-- R140, R180, R187: from reset, under every capacity and every finite sequence of transactions, resets, engine turns
and waits, no step ever stops: each of the model's faults states a thing that cannot happen. (The faults are the
model's own, assumption logs 5 and 6.) -/
def Obligations.NoRunFromResetEverStops : Prop :=
  ∀ (q : Fin 1048576) (l : List Event) (k : Nat),
    ∃ t, Host.Core.run Sys2Proof.core k { State.reset with capQuads := q, pending := l } = .next t
end

