-- ==== Sys2Proof/Laws/Arith.lean ====
section
/-! SUPPORT. The primitive functions (spec/00_scope.md R8), the cell's range (spec/10_state.md R41) and the bounds
of the error (spec/41_dither.md R140). -/

namespace Sys2Proof.Machine

/-- `tdiv` is truncation toward zero. -/
theorem tdiv_eq_int_tdiv (a n : Int) : tdiv a n = Int.tdiv a n := by
  unfold tdiv
  split
  · rw [Int.tdiv_eq_ediv_of_nonneg ‹_›]
  · have h := Int.tdiv_eq_ediv_of_nonneg (b := n) (show 0 ≤ -a by omega)
    rw [Int.neg_tdiv] at h
    omega

/-- Negative errors mirror positive ones (R144). -/
theorem tdiv_neg (a n : Int) : tdiv (-a) n = -tdiv a n := by
  rw [tdiv_eq_int_tdiv, tdiv_eq_int_tdiv, Int.neg_tdiv]

/-- What truncation by 16 gives, as linear facts. -/
theorem tdiv_sixteen (a : Int) :
    (0 ≤ a → 0 ≤ tdiv a 16 ∧ 16 * tdiv a 16 ≤ a ∧ a < 16 * tdiv a 16 + 16) ∧
    (a ≤ 0 → tdiv a 16 ≤ 0 ∧ a ≤ 16 * tdiv a 16 ∧ 16 * tdiv a 16 - 16 < a) := by
  unfold tdiv; split <;> constructor <;> intro h <;> omega

/-- What truncation by 8 gives, as linear facts. -/
theorem tdiv_eight (a : Int) :
    (0 ≤ a → 0 ≤ tdiv a 8 ∧ 8 * tdiv a 8 ≤ a ∧ a < 8 * tdiv a 8 + 8) ∧
    (a ≤ 0 → tdiv a 8 ≤ 0 ∧ a ≤ 8 * tdiv a 8 ∧ 8 * tdiv a 8 - 8 < a) := by
  unfold tdiv; split <;> constructor <;> intro h <;> omega

/-- `clamp` lands in its range. -/
theorem clamp_mem (v : Int) {lo hi : Int} (h : lo ≤ hi) : lo ≤ clamp v lo hi ∧ clamp v lo hi ≤ hi := by
  unfold clamp; split
  · omega
  · split <;> omega

/-- `ceil8` is the document's ceiling division. -/
theorem ceil8_bounds (w : Nat) : w ≤ 8 * ceil8 w ∧ 8 * ceil8 w ≤ w + 7 := by unfold ceil8; omega

theorem ceil8_le (w : Nat) : ceil8 w ≤ w := by unfold ceil8; omega

theorem ceil8_pos {w : Nat} (h : 0 < w) : 0 < ceil8 w := by unfold ceil8; omega

/-- An accumulated value in range has an error of at most HALF (R140). -/
theorem quantError_range {v : Int} (h : -Config.half ≤ v) (h' : v ≤ Config.one + Config.half) :
    -Config.half ≤ quantError v ∧ quantError v ≤ Config.half := by
  unfold quantError
  simp only [Config.half, Config.one] at *
  by_cases hv : 32640 < v <;> simp only [hv, if_true, if_false] <;> omega

/-- The cell of an integer in range holds that integer. -/
theorem cellOfInt_toInt {v : Int} {c : WorkCell} (h : cellOfInt v = some c) : c.toInt = v := by
  unfold cellOfInt at h
  split at h
  · cases h
    rw [BitVec.toInt_ofInt]
    exact Int.bmod_eq_of_le (by omega) (by omega)
  · cases h

/-- Every integer of the 18-bit range has a cell. -/
theorem cellOfInt_isSome {v : Int} (h : -131072 ≤ v) (h' : v ≤ 131071) :
    cellOfInt v = some (BitVec.ofInt 18 v) := by
  simp [cellOfInt, h, h']

theorem linTable_length : linTable.length = 256 := by decide +kernel

theorem thresholdTable_length : thresholdTable.length = 255 := by decide +kernel

/-- Every entry of `LIN` is a working-unit value of an intensity (R112). -/
theorem linTable_le : ∀ v ∈ linTable, v ≤ 65280 := by decide +kernel

theorem lin_le (c : Nat) : lin c ≤ 65280 := by
  unfold lin
  by_cases h : c < linTable.length
  · rw [List.getD_eq_getElem _ _ h]; exact linTable_le _ (List.getElem_mem h)
  · rw [List.getD_eq_default _ _ (by omega)]; omega

/-- A seed lies in [0, ONE] under both methods (R131). -/
theorem seedOf_le (m : Method) (c : Code) : seedOf m c ≤ 65280 := by
  cases m
  · have := c.isLt; simp only [seedOf]; omega
  · exact lin_le _

/-- The seeded cell holds the seed: it fits 18 bits signed. -/
theorem seedOf_toInt (m : Method) (c : Code) : (BitVec.ofNat 18 (seedOf m c)).toInt = seedOf m c := by
  have h := seedOf_le m c
  rw [BitVec.toInt_ofNat']
  exact Int.bmod_eq_of_le (by omega) (by omega)

end Sys2Proof.Machine
end

