-- ==== Sys2Proof/Laws/State.lean ====
section
/-! SUPPORT. One lemma for each field of State under each named update. -/

namespace Sys2Proof.Machine

variable (s : State)

/-! ### `State.setBusy` -/

@[simp] theorem State.setBusy_status (b : Bool) : (s.setBusy b).status = withBit s.status 0 b := rfl
@[simp] theorem State.setBusy_ien (b : Bool) : (s.setBusy b).ien = s.ien := rfl
@[simp] theorem State.setBusy_width (b : Bool) : (s.setBusy b).width = s.width := rfl
@[simp] theorem State.setBusy_height (b : Bool) : (s.setBusy b).height = s.height := rfl
@[simp] theorem State.setBusy_stride (b : Bool) : (s.setBusy b).stride = s.stride := rfl
@[simp] theorem State.setBusy_plen (b : Bool) : (s.setBusy b).plen = s.plen := rfl
@[simp] theorem State.setBusy_curx (b : Bool) : (s.setBusy b).curx = s.curx := rfl
@[simp] theorem State.setBusy_cury (b : Bool) : (s.setBusy b).cury = s.cury := rfl
@[simp] theorem State.setBusy_errcmd (b : Bool) : (s.setBusy b).errcmd = s.errcmd := rfl
@[simp] theorem State.setBusy_erraddr (b : Bool) : (s.setBusy b).erraddr = s.erraddr := rfl
@[simp] theorem State.setBusy_cscin (b : Bool) : (s.setBusy b).cscin = s.cscin := rfl
@[simp] theorem State.setBusy_actcmd (b : Bool) : (s.setBusy b).actcmd = s.actcmd := rfl
@[simp] theorem State.setBusy_imem (b : Bool) : (s.setBusy b).imem = s.imem := rfl
@[simp] theorem State.setBusy_wbuf (b : Bool) : (s.setBusy b).wbuf = s.wbuf := rfl
@[simp] theorem State.setBusy_bmem (b : Bool) : (s.setBusy b).bmem = s.bmem := rfl
@[simp] theorem State.setBusy_pmem (b : Bool) : (s.setBusy b).pmem = s.pmem := rfl
@[simp] theorem State.setBusy_capQuads (b : Bool) : (s.setBusy b).capQuads = s.capQuads := rfl
@[simp] theorem State.setBusy_epoch (b : Bool) : (s.setBusy b).epoch = s.epoch := rfl
@[simp] theorem State.setBusy_pending (b : Bool) : (s.setBusy b).pending = s.pending := rfl
@[simp] theorem State.setBusy_reply (b : Bool) : (s.setBusy b).reply = s.reply := rfl

/-! ### `State.setDone` -/

@[simp] theorem State.setDone_status (b : Bool) : (s.setDone b).status = withBit s.status 1 b := rfl
@[simp] theorem State.setDone_ien (b : Bool) : (s.setDone b).ien = s.ien := rfl
@[simp] theorem State.setDone_width (b : Bool) : (s.setDone b).width = s.width := rfl
@[simp] theorem State.setDone_height (b : Bool) : (s.setDone b).height = s.height := rfl
@[simp] theorem State.setDone_stride (b : Bool) : (s.setDone b).stride = s.stride := rfl
@[simp] theorem State.setDone_plen (b : Bool) : (s.setDone b).plen = s.plen := rfl
@[simp] theorem State.setDone_curx (b : Bool) : (s.setDone b).curx = s.curx := rfl
@[simp] theorem State.setDone_cury (b : Bool) : (s.setDone b).cury = s.cury := rfl
@[simp] theorem State.setDone_errcmd (b : Bool) : (s.setDone b).errcmd = s.errcmd := rfl
@[simp] theorem State.setDone_erraddr (b : Bool) : (s.setDone b).erraddr = s.erraddr := rfl
@[simp] theorem State.setDone_cscin (b : Bool) : (s.setDone b).cscin = s.cscin := rfl
@[simp] theorem State.setDone_actcmd (b : Bool) : (s.setDone b).actcmd = s.actcmd := rfl
@[simp] theorem State.setDone_imem (b : Bool) : (s.setDone b).imem = s.imem := rfl
@[simp] theorem State.setDone_wbuf (b : Bool) : (s.setDone b).wbuf = s.wbuf := rfl
@[simp] theorem State.setDone_bmem (b : Bool) : (s.setDone b).bmem = s.bmem := rfl
@[simp] theorem State.setDone_pmem (b : Bool) : (s.setDone b).pmem = s.pmem := rfl
@[simp] theorem State.setDone_capQuads (b : Bool) : (s.setDone b).capQuads = s.capQuads := rfl
@[simp] theorem State.setDone_epoch (b : Bool) : (s.setDone b).epoch = s.epoch := rfl
@[simp] theorem State.setDone_pending (b : Bool) : (s.setDone b).pending = s.pending := rfl
@[simp] theorem State.setDone_reply (b : Bool) : (s.setDone b).reply = s.reply := rfl

/-! ### `State.setPhase` -/

@[simp] theorem State.setPhase_status (p : Phase) : (s.setPhase p).status = withBit (withBit s.status 2 p.lo) 3 p.hi := rfl
@[simp] theorem State.setPhase_ien (p : Phase) : (s.setPhase p).ien = s.ien := rfl
@[simp] theorem State.setPhase_width (p : Phase) : (s.setPhase p).width = s.width := rfl
@[simp] theorem State.setPhase_height (p : Phase) : (s.setPhase p).height = s.height := rfl
@[simp] theorem State.setPhase_stride (p : Phase) : (s.setPhase p).stride = s.stride := rfl
@[simp] theorem State.setPhase_plen (p : Phase) : (s.setPhase p).plen = s.plen := rfl
@[simp] theorem State.setPhase_curx (p : Phase) : (s.setPhase p).curx = s.curx := rfl
@[simp] theorem State.setPhase_cury (p : Phase) : (s.setPhase p).cury = s.cury := rfl
@[simp] theorem State.setPhase_errcmd (p : Phase) : (s.setPhase p).errcmd = s.errcmd := rfl
@[simp] theorem State.setPhase_erraddr (p : Phase) : (s.setPhase p).erraddr = s.erraddr := rfl
@[simp] theorem State.setPhase_cscin (p : Phase) : (s.setPhase p).cscin = s.cscin := rfl
@[simp] theorem State.setPhase_actcmd (p : Phase) : (s.setPhase p).actcmd = s.actcmd := rfl
@[simp] theorem State.setPhase_imem (p : Phase) : (s.setPhase p).imem = s.imem := rfl
@[simp] theorem State.setPhase_wbuf (p : Phase) : (s.setPhase p).wbuf = s.wbuf := rfl
@[simp] theorem State.setPhase_bmem (p : Phase) : (s.setPhase p).bmem = s.bmem := rfl
@[simp] theorem State.setPhase_pmem (p : Phase) : (s.setPhase p).pmem = s.pmem := rfl
@[simp] theorem State.setPhase_capQuads (p : Phase) : (s.setPhase p).capQuads = s.capQuads := rfl
@[simp] theorem State.setPhase_epoch (p : Phase) : (s.setPhase p).epoch = s.epoch := rfl
@[simp] theorem State.setPhase_pending (p : Phase) : (s.setPhase p).pending = s.pending := rfl
@[simp] theorem State.setPhase_reply (p : Phase) : (s.setPhase p).reply = s.reply := rfl

/-! ### `State.setErr` -/

@[simp] theorem State.setErr_status (k : ErrKind) : (s.setErr k).status = withBit s.status k.code true := rfl
@[simp] theorem State.setErr_ien (k : ErrKind) : (s.setErr k).ien = s.ien := rfl
@[simp] theorem State.setErr_width (k : ErrKind) : (s.setErr k).width = s.width := rfl
@[simp] theorem State.setErr_height (k : ErrKind) : (s.setErr k).height = s.height := rfl
@[simp] theorem State.setErr_stride (k : ErrKind) : (s.setErr k).stride = s.stride := rfl
@[simp] theorem State.setErr_plen (k : ErrKind) : (s.setErr k).plen = s.plen := rfl
@[simp] theorem State.setErr_curx (k : ErrKind) : (s.setErr k).curx = s.curx := rfl
@[simp] theorem State.setErr_cury (k : ErrKind) : (s.setErr k).cury = s.cury := rfl
@[simp] theorem State.setErr_errcmd (k : ErrKind) : (s.setErr k).errcmd = s.errcmd := rfl
@[simp] theorem State.setErr_erraddr (k : ErrKind) : (s.setErr k).erraddr = s.erraddr := rfl
@[simp] theorem State.setErr_cscin (k : ErrKind) : (s.setErr k).cscin = s.cscin := rfl
@[simp] theorem State.setErr_actcmd (k : ErrKind) : (s.setErr k).actcmd = s.actcmd := rfl
@[simp] theorem State.setErr_imem (k : ErrKind) : (s.setErr k).imem = s.imem := rfl
@[simp] theorem State.setErr_wbuf (k : ErrKind) : (s.setErr k).wbuf = s.wbuf := rfl
@[simp] theorem State.setErr_bmem (k : ErrKind) : (s.setErr k).bmem = s.bmem := rfl
@[simp] theorem State.setErr_pmem (k : ErrKind) : (s.setErr k).pmem = s.pmem := rfl
@[simp] theorem State.setErr_capQuads (k : ErrKind) : (s.setErr k).capQuads = s.capQuads := rfl
@[simp] theorem State.setErr_epoch (k : ErrKind) : (s.setErr k).epoch = s.epoch := rfl
@[simp] theorem State.setErr_pending (k : ErrKind) : (s.setErr k).pending = s.pending := rfl
@[simp] theorem State.setErr_reply (k : ErrKind) : (s.setErr k).reply = s.reply := rfl

/-! ### `State.setCursor` -/

@[simp] theorem State.setCursor_status (x y : Word) : (s.setCursor x y).status = s.status := rfl
@[simp] theorem State.setCursor_ien (x y : Word) : (s.setCursor x y).ien = s.ien := rfl
@[simp] theorem State.setCursor_width (x y : Word) : (s.setCursor x y).width = s.width := rfl
@[simp] theorem State.setCursor_height (x y : Word) : (s.setCursor x y).height = s.height := rfl
@[simp] theorem State.setCursor_stride (x y : Word) : (s.setCursor x y).stride = s.stride := rfl
@[simp] theorem State.setCursor_plen (x y : Word) : (s.setCursor x y).plen = s.plen := rfl
@[simp] theorem State.setCursor_curx (x y : Word) : (s.setCursor x y).curx = x := rfl
@[simp] theorem State.setCursor_cury (x y : Word) : (s.setCursor x y).cury = y := rfl
@[simp] theorem State.setCursor_errcmd (x y : Word) : (s.setCursor x y).errcmd = s.errcmd := rfl
@[simp] theorem State.setCursor_erraddr (x y : Word) : (s.setCursor x y).erraddr = s.erraddr := rfl
@[simp] theorem State.setCursor_cscin (x y : Word) : (s.setCursor x y).cscin = s.cscin := rfl
@[simp] theorem State.setCursor_actcmd (x y : Word) : (s.setCursor x y).actcmd = s.actcmd := rfl
@[simp] theorem State.setCursor_imem (x y : Word) : (s.setCursor x y).imem = s.imem := rfl
@[simp] theorem State.setCursor_wbuf (x y : Word) : (s.setCursor x y).wbuf = s.wbuf := rfl
@[simp] theorem State.setCursor_bmem (x y : Word) : (s.setCursor x y).bmem = s.bmem := rfl
@[simp] theorem State.setCursor_pmem (x y : Word) : (s.setCursor x y).pmem = s.pmem := rfl
@[simp] theorem State.setCursor_capQuads (x y : Word) : (s.setCursor x y).capQuads = s.capQuads := rfl
@[simp] theorem State.setCursor_epoch (x y : Word) : (s.setCursor x y).epoch = s.epoch := rfl
@[simp] theorem State.setCursor_pending (x y : Word) : (s.setCursor x y).pending = s.pending := rfl
@[simp] theorem State.setCursor_reply (x y : Word) : (s.setCursor x y).reply = s.reply := rfl

/-! ### `State.setActcmd` -/

@[simp] theorem State.setActcmd_status (w : Word) : (s.setActcmd w).status = s.status := rfl
@[simp] theorem State.setActcmd_ien (w : Word) : (s.setActcmd w).ien = s.ien := rfl
@[simp] theorem State.setActcmd_width (w : Word) : (s.setActcmd w).width = s.width := rfl
@[simp] theorem State.setActcmd_height (w : Word) : (s.setActcmd w).height = s.height := rfl
@[simp] theorem State.setActcmd_stride (w : Word) : (s.setActcmd w).stride = s.stride := rfl
@[simp] theorem State.setActcmd_plen (w : Word) : (s.setActcmd w).plen = s.plen := rfl
@[simp] theorem State.setActcmd_curx (w : Word) : (s.setActcmd w).curx = s.curx := rfl
@[simp] theorem State.setActcmd_cury (w : Word) : (s.setActcmd w).cury = s.cury := rfl
@[simp] theorem State.setActcmd_errcmd (w : Word) : (s.setActcmd w).errcmd = s.errcmd := rfl
@[simp] theorem State.setActcmd_erraddr (w : Word) : (s.setActcmd w).erraddr = s.erraddr := rfl
@[simp] theorem State.setActcmd_cscin (w : Word) : (s.setActcmd w).cscin = s.cscin := rfl
@[simp] theorem State.setActcmd_actcmd (w : Word) : (s.setActcmd w).actcmd = w := rfl
@[simp] theorem State.setActcmd_imem (w : Word) : (s.setActcmd w).imem = s.imem := rfl
@[simp] theorem State.setActcmd_wbuf (w : Word) : (s.setActcmd w).wbuf = s.wbuf := rfl
@[simp] theorem State.setActcmd_bmem (w : Word) : (s.setActcmd w).bmem = s.bmem := rfl
@[simp] theorem State.setActcmd_pmem (w : Word) : (s.setActcmd w).pmem = s.pmem := rfl
@[simp] theorem State.setActcmd_capQuads (w : Word) : (s.setActcmd w).capQuads = s.capQuads := rfl
@[simp] theorem State.setActcmd_epoch (w : Word) : (s.setActcmd w).epoch = s.epoch := rfl
@[simp] theorem State.setActcmd_pending (w : Word) : (s.setActcmd w).pending = s.pending := rfl
@[simp] theorem State.setActcmd_reply (w : Word) : (s.setActcmd w).reply = s.reply := rfl

/-! ### `State.latchPack` -/

@[simp] theorem State.latchPack_status : (s.latchPack).status = s.status := rfl
@[simp] theorem State.latchPack_ien : (s.latchPack).ien = s.ien := rfl
@[simp] theorem State.latchPack_width : (s.latchPack).width = s.width := rfl
@[simp] theorem State.latchPack_height : (s.latchPack).height = s.height := rfl
@[simp] theorem State.latchPack_stride : (s.latchPack).stride = BitVec.ofNat 32 (ceil8 s.cols) := rfl
@[simp] theorem State.latchPack_plen : (s.latchPack).plen = BitVec.ofNat 32 (s.rows * ceil8 s.cols) := rfl
@[simp] theorem State.latchPack_curx : (s.latchPack).curx = s.curx := rfl
@[simp] theorem State.latchPack_cury : (s.latchPack).cury = s.cury := rfl
@[simp] theorem State.latchPack_errcmd : (s.latchPack).errcmd = s.errcmd := rfl
@[simp] theorem State.latchPack_erraddr : (s.latchPack).erraddr = s.erraddr := rfl
@[simp] theorem State.latchPack_cscin : (s.latchPack).cscin = s.cscin := rfl
@[simp] theorem State.latchPack_actcmd : (s.latchPack).actcmd = s.actcmd := rfl
@[simp] theorem State.latchPack_imem : (s.latchPack).imem = s.imem := rfl
@[simp] theorem State.latchPack_wbuf : (s.latchPack).wbuf = s.wbuf := rfl
@[simp] theorem State.latchPack_bmem : (s.latchPack).bmem = s.bmem := rfl
@[simp] theorem State.latchPack_pmem : (s.latchPack).pmem = s.pmem := rfl
@[simp] theorem State.latchPack_capQuads : (s.latchPack).capQuads = s.capQuads := rfl
@[simp] theorem State.latchPack_epoch : (s.latchPack).epoch = s.epoch := rfl
@[simp] theorem State.latchPack_pending : (s.latchPack).pending = s.pending := rfl
@[simp] theorem State.latchPack_reply : (s.latchPack).reply = s.reply := rfl

/-! ### `State.setReply` -/

@[simp] theorem State.setReply_status (r : BusReply) : (s.setReply r).status = s.status := rfl
@[simp] theorem State.setReply_ien (r : BusReply) : (s.setReply r).ien = s.ien := rfl
@[simp] theorem State.setReply_width (r : BusReply) : (s.setReply r).width = s.width := rfl
@[simp] theorem State.setReply_height (r : BusReply) : (s.setReply r).height = s.height := rfl
@[simp] theorem State.setReply_stride (r : BusReply) : (s.setReply r).stride = s.stride := rfl
@[simp] theorem State.setReply_plen (r : BusReply) : (s.setReply r).plen = s.plen := rfl
@[simp] theorem State.setReply_curx (r : BusReply) : (s.setReply r).curx = s.curx := rfl
@[simp] theorem State.setReply_cury (r : BusReply) : (s.setReply r).cury = s.cury := rfl
@[simp] theorem State.setReply_errcmd (r : BusReply) : (s.setReply r).errcmd = s.errcmd := rfl
@[simp] theorem State.setReply_erraddr (r : BusReply) : (s.setReply r).erraddr = s.erraddr := rfl
@[simp] theorem State.setReply_cscin (r : BusReply) : (s.setReply r).cscin = s.cscin := rfl
@[simp] theorem State.setReply_actcmd (r : BusReply) : (s.setReply r).actcmd = s.actcmd := rfl
@[simp] theorem State.setReply_imem (r : BusReply) : (s.setReply r).imem = s.imem := rfl
@[simp] theorem State.setReply_wbuf (r : BusReply) : (s.setReply r).wbuf = s.wbuf := rfl
@[simp] theorem State.setReply_bmem (r : BusReply) : (s.setReply r).bmem = s.bmem := rfl
@[simp] theorem State.setReply_pmem (r : BusReply) : (s.setReply r).pmem = s.pmem := rfl
@[simp] theorem State.setReply_capQuads (r : BusReply) : (s.setReply r).capQuads = s.capQuads := rfl
@[simp] theorem State.setReply_epoch (r : BusReply) : (s.setReply r).epoch = s.epoch := rfl
@[simp] theorem State.setReply_pending (r : BusReply) : (s.setReply r).pending = s.pending := rfl
@[simp] theorem State.setReply_reply (r : BusReply) : (s.setReply r).reply = some r := rfl

/-! ### `State.writeImem` -/

@[simp] theorem State.writeImem_status (i : Nat) (v : Code) : (s.writeImem i v).status = s.status := rfl
@[simp] theorem State.writeImem_ien (i : Nat) (v : Code) : (s.writeImem i v).ien = s.ien := rfl
@[simp] theorem State.writeImem_width (i : Nat) (v : Code) : (s.writeImem i v).width = s.width := rfl
@[simp] theorem State.writeImem_height (i : Nat) (v : Code) : (s.writeImem i v).height = s.height := rfl
@[simp] theorem State.writeImem_stride (i : Nat) (v : Code) : (s.writeImem i v).stride = s.stride := rfl
@[simp] theorem State.writeImem_plen (i : Nat) (v : Code) : (s.writeImem i v).plen = s.plen := rfl
@[simp] theorem State.writeImem_curx (i : Nat) (v : Code) : (s.writeImem i v).curx = s.curx := rfl
@[simp] theorem State.writeImem_cury (i : Nat) (v : Code) : (s.writeImem i v).cury = s.cury := rfl
@[simp] theorem State.writeImem_errcmd (i : Nat) (v : Code) : (s.writeImem i v).errcmd = s.errcmd := rfl
@[simp] theorem State.writeImem_erraddr (i : Nat) (v : Code) : (s.writeImem i v).erraddr = s.erraddr := rfl
@[simp] theorem State.writeImem_cscin (i : Nat) (v : Code) : (s.writeImem i v).cscin = s.cscin := rfl
@[simp] theorem State.writeImem_actcmd (i : Nat) (v : Code) : (s.writeImem i v).actcmd = s.actcmd := rfl
@[simp] theorem State.writeImem_imem (i : Nat) (v : Code) : (s.writeImem i v).imem = s.imem.insert i v := rfl
@[simp] theorem State.writeImem_wbuf (i : Nat) (v : Code) : (s.writeImem i v).wbuf = s.wbuf := rfl
@[simp] theorem State.writeImem_bmem (i : Nat) (v : Code) : (s.writeImem i v).bmem = s.bmem := rfl
@[simp] theorem State.writeImem_pmem (i : Nat) (v : Code) : (s.writeImem i v).pmem = s.pmem := rfl
@[simp] theorem State.writeImem_capQuads (i : Nat) (v : Code) : (s.writeImem i v).capQuads = s.capQuads := rfl
@[simp] theorem State.writeImem_epoch (i : Nat) (v : Code) : (s.writeImem i v).epoch = s.epoch := rfl
@[simp] theorem State.writeImem_pending (i : Nat) (v : Code) : (s.writeImem i v).pending = s.pending := rfl
@[simp] theorem State.writeImem_reply (i : Nat) (v : Code) : (s.writeImem i v).reply = s.reply := rfl

/-! ### `State.writeWbuf` -/

@[simp] theorem State.writeWbuf_status (i : Nat) (v : WorkCell) : (s.writeWbuf i v).status = s.status := rfl
@[simp] theorem State.writeWbuf_ien (i : Nat) (v : WorkCell) : (s.writeWbuf i v).ien = s.ien := rfl
@[simp] theorem State.writeWbuf_width (i : Nat) (v : WorkCell) : (s.writeWbuf i v).width = s.width := rfl
@[simp] theorem State.writeWbuf_height (i : Nat) (v : WorkCell) : (s.writeWbuf i v).height = s.height := rfl
@[simp] theorem State.writeWbuf_stride (i : Nat) (v : WorkCell) : (s.writeWbuf i v).stride = s.stride := rfl
@[simp] theorem State.writeWbuf_plen (i : Nat) (v : WorkCell) : (s.writeWbuf i v).plen = s.plen := rfl
@[simp] theorem State.writeWbuf_curx (i : Nat) (v : WorkCell) : (s.writeWbuf i v).curx = s.curx := rfl
@[simp] theorem State.writeWbuf_cury (i : Nat) (v : WorkCell) : (s.writeWbuf i v).cury = s.cury := rfl
@[simp] theorem State.writeWbuf_errcmd (i : Nat) (v : WorkCell) : (s.writeWbuf i v).errcmd = s.errcmd := rfl
@[simp] theorem State.writeWbuf_erraddr (i : Nat) (v : WorkCell) : (s.writeWbuf i v).erraddr = s.erraddr := rfl
@[simp] theorem State.writeWbuf_cscin (i : Nat) (v : WorkCell) : (s.writeWbuf i v).cscin = s.cscin := rfl
@[simp] theorem State.writeWbuf_actcmd (i : Nat) (v : WorkCell) : (s.writeWbuf i v).actcmd = s.actcmd := rfl
@[simp] theorem State.writeWbuf_imem (i : Nat) (v : WorkCell) : (s.writeWbuf i v).imem = s.imem := rfl
@[simp] theorem State.writeWbuf_wbuf (i : Nat) (v : WorkCell) : (s.writeWbuf i v).wbuf = s.wbuf.insert i v := rfl
@[simp] theorem State.writeWbuf_bmem (i : Nat) (v : WorkCell) : (s.writeWbuf i v).bmem = s.bmem := rfl
@[simp] theorem State.writeWbuf_pmem (i : Nat) (v : WorkCell) : (s.writeWbuf i v).pmem = s.pmem := rfl
@[simp] theorem State.writeWbuf_capQuads (i : Nat) (v : WorkCell) : (s.writeWbuf i v).capQuads = s.capQuads := rfl
@[simp] theorem State.writeWbuf_epoch (i : Nat) (v : WorkCell) : (s.writeWbuf i v).epoch = s.epoch := rfl
@[simp] theorem State.writeWbuf_pending (i : Nat) (v : WorkCell) : (s.writeWbuf i v).pending = s.pending := rfl
@[simp] theorem State.writeWbuf_reply (i : Nat) (v : WorkCell) : (s.writeWbuf i v).reply = s.reply := rfl

/-! ### `State.writeBmem` -/

@[simp] theorem State.writeBmem_status (i : Nat) (v : PixelBit) : (s.writeBmem i v).status = s.status := rfl
@[simp] theorem State.writeBmem_ien (i : Nat) (v : PixelBit) : (s.writeBmem i v).ien = s.ien := rfl
@[simp] theorem State.writeBmem_width (i : Nat) (v : PixelBit) : (s.writeBmem i v).width = s.width := rfl
@[simp] theorem State.writeBmem_height (i : Nat) (v : PixelBit) : (s.writeBmem i v).height = s.height := rfl
@[simp] theorem State.writeBmem_stride (i : Nat) (v : PixelBit) : (s.writeBmem i v).stride = s.stride := rfl
@[simp] theorem State.writeBmem_plen (i : Nat) (v : PixelBit) : (s.writeBmem i v).plen = s.plen := rfl
@[simp] theorem State.writeBmem_curx (i : Nat) (v : PixelBit) : (s.writeBmem i v).curx = s.curx := rfl
@[simp] theorem State.writeBmem_cury (i : Nat) (v : PixelBit) : (s.writeBmem i v).cury = s.cury := rfl
@[simp] theorem State.writeBmem_errcmd (i : Nat) (v : PixelBit) : (s.writeBmem i v).errcmd = s.errcmd := rfl
@[simp] theorem State.writeBmem_erraddr (i : Nat) (v : PixelBit) : (s.writeBmem i v).erraddr = s.erraddr := rfl
@[simp] theorem State.writeBmem_cscin (i : Nat) (v : PixelBit) : (s.writeBmem i v).cscin = s.cscin := rfl
@[simp] theorem State.writeBmem_actcmd (i : Nat) (v : PixelBit) : (s.writeBmem i v).actcmd = s.actcmd := rfl
@[simp] theorem State.writeBmem_imem (i : Nat) (v : PixelBit) : (s.writeBmem i v).imem = s.imem := rfl
@[simp] theorem State.writeBmem_wbuf (i : Nat) (v : PixelBit) : (s.writeBmem i v).wbuf = s.wbuf := rfl
@[simp] theorem State.writeBmem_bmem (i : Nat) (v : PixelBit) : (s.writeBmem i v).bmem = s.bmem.insert i v := rfl
@[simp] theorem State.writeBmem_pmem (i : Nat) (v : PixelBit) : (s.writeBmem i v).pmem = s.pmem := rfl
@[simp] theorem State.writeBmem_capQuads (i : Nat) (v : PixelBit) : (s.writeBmem i v).capQuads = s.capQuads := rfl
@[simp] theorem State.writeBmem_epoch (i : Nat) (v : PixelBit) : (s.writeBmem i v).epoch = s.epoch := rfl
@[simp] theorem State.writeBmem_pending (i : Nat) (v : PixelBit) : (s.writeBmem i v).pending = s.pending := rfl
@[simp] theorem State.writeBmem_reply (i : Nat) (v : PixelBit) : (s.writeBmem i v).reply = s.reply := rfl

/-! ### `State.writePmem` -/

@[simp] theorem State.writePmem_status (i : Nat) (v : Byte) : (s.writePmem i v).status = s.status := rfl
@[simp] theorem State.writePmem_ien (i : Nat) (v : Byte) : (s.writePmem i v).ien = s.ien := rfl
@[simp] theorem State.writePmem_width (i : Nat) (v : Byte) : (s.writePmem i v).width = s.width := rfl
@[simp] theorem State.writePmem_height (i : Nat) (v : Byte) : (s.writePmem i v).height = s.height := rfl
@[simp] theorem State.writePmem_stride (i : Nat) (v : Byte) : (s.writePmem i v).stride = s.stride := rfl
@[simp] theorem State.writePmem_plen (i : Nat) (v : Byte) : (s.writePmem i v).plen = s.plen := rfl
@[simp] theorem State.writePmem_curx (i : Nat) (v : Byte) : (s.writePmem i v).curx = s.curx := rfl
@[simp] theorem State.writePmem_cury (i : Nat) (v : Byte) : (s.writePmem i v).cury = s.cury := rfl
@[simp] theorem State.writePmem_errcmd (i : Nat) (v : Byte) : (s.writePmem i v).errcmd = s.errcmd := rfl
@[simp] theorem State.writePmem_erraddr (i : Nat) (v : Byte) : (s.writePmem i v).erraddr = s.erraddr := rfl
@[simp] theorem State.writePmem_cscin (i : Nat) (v : Byte) : (s.writePmem i v).cscin = s.cscin := rfl
@[simp] theorem State.writePmem_actcmd (i : Nat) (v : Byte) : (s.writePmem i v).actcmd = s.actcmd := rfl
@[simp] theorem State.writePmem_imem (i : Nat) (v : Byte) : (s.writePmem i v).imem = s.imem := rfl
@[simp] theorem State.writePmem_wbuf (i : Nat) (v : Byte) : (s.writePmem i v).wbuf = s.wbuf := rfl
@[simp] theorem State.writePmem_bmem (i : Nat) (v : Byte) : (s.writePmem i v).bmem = s.bmem := rfl
@[simp] theorem State.writePmem_pmem (i : Nat) (v : Byte) : (s.writePmem i v).pmem = s.pmem.insert i v := rfl
@[simp] theorem State.writePmem_capQuads (i : Nat) (v : Byte) : (s.writePmem i v).capQuads = s.capQuads := rfl
@[simp] theorem State.writePmem_epoch (i : Nat) (v : Byte) : (s.writePmem i v).epoch = s.epoch := rfl
@[simp] theorem State.writePmem_pending (i : Nat) (v : Byte) : (s.writePmem i v).pending = s.pending := rfl
@[simp] theorem State.writePmem_reply (i : Nat) (v : Byte) : (s.writePmem i v).reply = s.reply := rfl

/-! ### `State.raise` -/

@[simp] theorem State.raise_status (k : ErrKind) (info : ErrInfo) : (s.raise k info).status = withBit s.status k.code true := by cases info <;> rfl
@[simp] theorem State.raise_ien (k : ErrKind) (info : ErrInfo) : (s.raise k info).ien = s.ien := by cases info <;> rfl
@[simp] theorem State.raise_width (k : ErrKind) (info : ErrInfo) : (s.raise k info).width = s.width := by cases info <;> rfl
@[simp] theorem State.raise_height (k : ErrKind) (info : ErrInfo) : (s.raise k info).height = s.height := by cases info <;> rfl
@[simp] theorem State.raise_stride (k : ErrKind) (info : ErrInfo) : (s.raise k info).stride = s.stride := by cases info <;> rfl
@[simp] theorem State.raise_plen (k : ErrKind) (info : ErrInfo) : (s.raise k info).plen = s.plen := by cases info <;> rfl
@[simp] theorem State.raise_curx (k : ErrKind) (info : ErrInfo) : (s.raise k info).curx = s.curx := by cases info <;> rfl
@[simp] theorem State.raise_cury (k : ErrKind) (info : ErrInfo) : (s.raise k info).cury = s.cury := by cases info <;> rfl
@[simp] theorem State.raise_cscin (k : ErrKind) (info : ErrInfo) : (s.raise k info).cscin = s.cscin := by cases info <;> rfl
@[simp] theorem State.raise_actcmd (k : ErrKind) (info : ErrInfo) : (s.raise k info).actcmd = s.actcmd := by cases info <;> rfl
@[simp] theorem State.raise_imem (k : ErrKind) (info : ErrInfo) : (s.raise k info).imem = s.imem := by cases info <;> rfl
@[simp] theorem State.raise_wbuf (k : ErrKind) (info : ErrInfo) : (s.raise k info).wbuf = s.wbuf := by cases info <;> rfl
@[simp] theorem State.raise_bmem (k : ErrKind) (info : ErrInfo) : (s.raise k info).bmem = s.bmem := by cases info <;> rfl
@[simp] theorem State.raise_pmem (k : ErrKind) (info : ErrInfo) : (s.raise k info).pmem = s.pmem := by cases info <;> rfl
@[simp] theorem State.raise_capQuads (k : ErrKind) (info : ErrInfo) : (s.raise k info).capQuads = s.capQuads := by cases info <;> rfl
@[simp] theorem State.raise_epoch (k : ErrKind) (info : ErrInfo) : (s.raise k info).epoch = s.epoch := by cases info <;> rfl
@[simp] theorem State.raise_pending (k : ErrKind) (info : ErrInfo) : (s.raise k info).pending = s.pending := by cases info <;> rfl
@[simp] theorem State.raise_reply (k : ErrKind) (info : ErrInfo) : (s.raise k info).reply = s.reply := by cases info <;> rfl

/-! ### `State.acknowledge` -/

@[simp] theorem State.acknowledge_status (d : Word) : (s.acknowledge d).status = s.status &&& ~~~(d &&& Config.flagMask) := rfl
@[simp] theorem State.acknowledge_ien (d : Word) : (s.acknowledge d).ien = s.ien := rfl
@[simp] theorem State.acknowledge_width (d : Word) : (s.acknowledge d).width = s.width := rfl
@[simp] theorem State.acknowledge_height (d : Word) : (s.acknowledge d).height = s.height := rfl
@[simp] theorem State.acknowledge_stride (d : Word) : (s.acknowledge d).stride = s.stride := rfl
@[simp] theorem State.acknowledge_plen (d : Word) : (s.acknowledge d).plen = s.plen := rfl
@[simp] theorem State.acknowledge_curx (d : Word) : (s.acknowledge d).curx = s.curx := rfl
@[simp] theorem State.acknowledge_cury (d : Word) : (s.acknowledge d).cury = s.cury := rfl
@[simp] theorem State.acknowledge_errcmd (d : Word) : (s.acknowledge d).errcmd = s.errcmd := rfl
@[simp] theorem State.acknowledge_erraddr (d : Word) : (s.acknowledge d).erraddr = s.erraddr := rfl
@[simp] theorem State.acknowledge_cscin (d : Word) : (s.acknowledge d).cscin = s.cscin := rfl
@[simp] theorem State.acknowledge_actcmd (d : Word) : (s.acknowledge d).actcmd = s.actcmd := rfl
@[simp] theorem State.acknowledge_imem (d : Word) : (s.acknowledge d).imem = s.imem := rfl
@[simp] theorem State.acknowledge_wbuf (d : Word) : (s.acknowledge d).wbuf = s.wbuf := rfl
@[simp] theorem State.acknowledge_bmem (d : Word) : (s.acknowledge d).bmem = s.bmem := rfl
@[simp] theorem State.acknowledge_pmem (d : Word) : (s.acknowledge d).pmem = s.pmem := rfl
@[simp] theorem State.acknowledge_capQuads (d : Word) : (s.acknowledge d).capQuads = s.capQuads := rfl
@[simp] theorem State.acknowledge_epoch (d : Word) : (s.acknowledge d).epoch = s.epoch := rfl
@[simp] theorem State.acknowledge_pending (d : Word) : (s.acknowledge d).pending = s.pending := rfl
@[simp] theorem State.acknowledge_reply (d : Word) : (s.acknowledge d).reply = s.reply := rfl

/-! ### `State.clearRegisters` -/

@[simp] theorem State.clearRegisters_status : (s.clearRegisters).status = 0#32 := rfl
@[simp] theorem State.clearRegisters_ien : (s.clearRegisters).ien = 0#32 := rfl
@[simp] theorem State.clearRegisters_width : (s.clearRegisters).width = 0#32 := rfl
@[simp] theorem State.clearRegisters_height : (s.clearRegisters).height = 0#32 := rfl
@[simp] theorem State.clearRegisters_stride : (s.clearRegisters).stride = 0#32 := rfl
@[simp] theorem State.clearRegisters_plen : (s.clearRegisters).plen = 0#32 := rfl
@[simp] theorem State.clearRegisters_curx : (s.clearRegisters).curx = 0#32 := rfl
@[simp] theorem State.clearRegisters_cury : (s.clearRegisters).cury = 0#32 := rfl
@[simp] theorem State.clearRegisters_errcmd : (s.clearRegisters).errcmd = 0#32 := rfl
@[simp] theorem State.clearRegisters_erraddr : (s.clearRegisters).erraddr = 0#32 := rfl
@[simp] theorem State.clearRegisters_cscin : (s.clearRegisters).cscin = 0#32 := rfl
@[simp] theorem State.clearRegisters_actcmd : (s.clearRegisters).actcmd = 0#32 := rfl
@[simp] theorem State.clearRegisters_imem : (s.clearRegisters).imem = s.imem := rfl
@[simp] theorem State.clearRegisters_wbuf : (s.clearRegisters).wbuf = s.wbuf := rfl
@[simp] theorem State.clearRegisters_bmem : (s.clearRegisters).bmem = s.bmem := rfl
@[simp] theorem State.clearRegisters_pmem : (s.clearRegisters).pmem = s.pmem := rfl
@[simp] theorem State.clearRegisters_capQuads : (s.clearRegisters).capQuads = s.capQuads := rfl
@[simp] theorem State.clearRegisters_epoch : (s.clearRegisters).epoch = s.epoch := rfl
@[simp] theorem State.clearRegisters_pending : (s.clearRegisters).pending = s.pending := rfl
@[simp] theorem State.clearRegisters_reply : (s.clearRegisters).reply = s.reply := rfl

/-! ### The capture registers under a refusal -/

@[simp] theorem State.raise_command_errcmd (k : ErrKind) (w : Word) : (s.raise k (.command w)).errcmd = w := rfl
@[simp] theorem State.raise_command_erraddr (k : ErrKind) (w : Word) :
    (s.raise k (.command w)).erraddr = s.erraddr := rfl
@[simp] theorem State.raise_access_errcmd (k : ErrKind) (a : BusAddr) :
    (s.raise k (.access a)).errcmd = s.errcmd := rfl
@[simp] theorem State.raise_access_erraddr (k : ErrKind) (a : BusAddr) :
    (s.raise k (.access a)).erraddr = a.setWidth 32 := rfl

/-! ### The resets -/

theorem softReset_eq : softReset s = s.clearRegisters := rfl

theorem hardReset_eq :
    hardReset s = { s.clearRegisters with imem := [], wbuf := [], bmem := [], pmem := [], epoch := s.epoch + 1 } := rfl

end Sys2Proof.Machine
end

