-- ==== Sys2Proof/Laws/Views.lean ====
section
/-! SUPPORT. What is computed from a state's fields (the bits of STATUS, the frame, the cursor, one element of a
memory), under each named update that leaves those fields as they are. -/

namespace Sys2Proof.Machine

variable (s : State)

/-! ### `State.setBusy` -/

@[simp] theorem State.x_setBusy (b : Bool) : (s.setBusy b).x = s.x := rfl
@[simp] theorem State.y_setBusy (b : Bool) : (s.setBusy b).y = s.y := rfl
@[simp] theorem State.frameW_setBusy (b : Bool) : (s.setBusy b).frameW = s.frameW := rfl
@[simp] theorem State.frameH_setBusy (b : Bool) : (s.setBusy b).frameH = s.frameH := rfl
@[simp] theorem State.cols_setBusy (b : Bool) : (s.setBusy b).cols = s.cols := rfl
@[simp] theorem State.rows_setBusy (b : Bool) : (s.setBusy b).rows = s.rows := rfl
@[simp] theorem State.maxpix_setBusy (b : Bool) : (s.setBusy b).maxpix = s.maxpix := rfl
@[simp] theorem State.frameLegal_setBusy (b : Bool) : (s.setBusy b).frameLegal = s.frameLegal := rfl
@[simp] theorem State.method_setBusy (b : Bool) : (s.setBusy b).method = s.method := rfl
@[simp] theorem State.polarity_setBusy (b : Bool) : (s.setBusy b).polarity = s.polarity := rfl
@[simp] theorem State.imemAt_setBusy (b : Bool) (j : Nat) : (s.setBusy b).imemAt j = s.imemAt j := rfl
@[simp] theorem State.wbufCell_setBusy (b : Bool) (j : Nat) : (s.setBusy b).wbufCell j = s.wbufCell j := rfl
@[simp] theorem State.wbufAt_setBusy (b : Bool) (j : Nat) : (s.setBusy b).wbufAt j = s.wbufAt j := rfl
@[simp] theorem State.bmemAt_setBusy (b : Bool) (j : Nat) : (s.setBusy b).bmemAt j = s.bmemAt j := rfl
@[simp] theorem State.pmemAt_setBusy (b : Bool) (j : Nat) : (s.setBusy b).pmemAt j = s.pmemAt j := rfl

/-! ### `State.setDone` -/

@[simp] theorem State.x_setDone (b : Bool) : (s.setDone b).x = s.x := rfl
@[simp] theorem State.y_setDone (b : Bool) : (s.setDone b).y = s.y := rfl
@[simp] theorem State.frameW_setDone (b : Bool) : (s.setDone b).frameW = s.frameW := rfl
@[simp] theorem State.frameH_setDone (b : Bool) : (s.setDone b).frameH = s.frameH := rfl
@[simp] theorem State.cols_setDone (b : Bool) : (s.setDone b).cols = s.cols := rfl
@[simp] theorem State.rows_setDone (b : Bool) : (s.setDone b).rows = s.rows := rfl
@[simp] theorem State.maxpix_setDone (b : Bool) : (s.setDone b).maxpix = s.maxpix := rfl
@[simp] theorem State.frameLegal_setDone (b : Bool) : (s.setDone b).frameLegal = s.frameLegal := rfl
@[simp] theorem State.method_setDone (b : Bool) : (s.setDone b).method = s.method := rfl
@[simp] theorem State.polarity_setDone (b : Bool) : (s.setDone b).polarity = s.polarity := rfl
@[simp] theorem State.imemAt_setDone (b : Bool) (j : Nat) : (s.setDone b).imemAt j = s.imemAt j := rfl
@[simp] theorem State.wbufCell_setDone (b : Bool) (j : Nat) : (s.setDone b).wbufCell j = s.wbufCell j := rfl
@[simp] theorem State.wbufAt_setDone (b : Bool) (j : Nat) : (s.setDone b).wbufAt j = s.wbufAt j := rfl
@[simp] theorem State.bmemAt_setDone (b : Bool) (j : Nat) : (s.setDone b).bmemAt j = s.bmemAt j := rfl
@[simp] theorem State.pmemAt_setDone (b : Bool) (j : Nat) : (s.setDone b).pmemAt j = s.pmemAt j := rfl

/-! ### `State.setPhase` -/

@[simp] theorem State.x_setPhase (p : Phase) : (s.setPhase p).x = s.x := rfl
@[simp] theorem State.y_setPhase (p : Phase) : (s.setPhase p).y = s.y := rfl
@[simp] theorem State.frameW_setPhase (p : Phase) : (s.setPhase p).frameW = s.frameW := rfl
@[simp] theorem State.frameH_setPhase (p : Phase) : (s.setPhase p).frameH = s.frameH := rfl
@[simp] theorem State.cols_setPhase (p : Phase) : (s.setPhase p).cols = s.cols := rfl
@[simp] theorem State.rows_setPhase (p : Phase) : (s.setPhase p).rows = s.rows := rfl
@[simp] theorem State.maxpix_setPhase (p : Phase) : (s.setPhase p).maxpix = s.maxpix := rfl
@[simp] theorem State.frameLegal_setPhase (p : Phase) : (s.setPhase p).frameLegal = s.frameLegal := rfl
@[simp] theorem State.method_setPhase (p : Phase) : (s.setPhase p).method = s.method := rfl
@[simp] theorem State.polarity_setPhase (p : Phase) : (s.setPhase p).polarity = s.polarity := rfl
@[simp] theorem State.imemAt_setPhase (p : Phase) (j : Nat) : (s.setPhase p).imemAt j = s.imemAt j := rfl
@[simp] theorem State.wbufCell_setPhase (p : Phase) (j : Nat) : (s.setPhase p).wbufCell j = s.wbufCell j := rfl
@[simp] theorem State.wbufAt_setPhase (p : Phase) (j : Nat) : (s.setPhase p).wbufAt j = s.wbufAt j := rfl
@[simp] theorem State.bmemAt_setPhase (p : Phase) (j : Nat) : (s.setPhase p).bmemAt j = s.bmemAt j := rfl
@[simp] theorem State.pmemAt_setPhase (p : Phase) (j : Nat) : (s.setPhase p).pmemAt j = s.pmemAt j := rfl

/-! ### `State.setErr` -/

@[simp] theorem State.x_setErr (k : ErrKind) : (s.setErr k).x = s.x := rfl
@[simp] theorem State.y_setErr (k : ErrKind) : (s.setErr k).y = s.y := rfl
@[simp] theorem State.frameW_setErr (k : ErrKind) : (s.setErr k).frameW = s.frameW := rfl
@[simp] theorem State.frameH_setErr (k : ErrKind) : (s.setErr k).frameH = s.frameH := rfl
@[simp] theorem State.cols_setErr (k : ErrKind) : (s.setErr k).cols = s.cols := rfl
@[simp] theorem State.rows_setErr (k : ErrKind) : (s.setErr k).rows = s.rows := rfl
@[simp] theorem State.maxpix_setErr (k : ErrKind) : (s.setErr k).maxpix = s.maxpix := rfl
@[simp] theorem State.frameLegal_setErr (k : ErrKind) : (s.setErr k).frameLegal = s.frameLegal := rfl
@[simp] theorem State.method_setErr (k : ErrKind) : (s.setErr k).method = s.method := rfl
@[simp] theorem State.polarity_setErr (k : ErrKind) : (s.setErr k).polarity = s.polarity := rfl
@[simp] theorem State.imemAt_setErr (k : ErrKind) (j : Nat) : (s.setErr k).imemAt j = s.imemAt j := rfl
@[simp] theorem State.wbufCell_setErr (k : ErrKind) (j : Nat) : (s.setErr k).wbufCell j = s.wbufCell j := rfl
@[simp] theorem State.wbufAt_setErr (k : ErrKind) (j : Nat) : (s.setErr k).wbufAt j = s.wbufAt j := rfl
@[simp] theorem State.bmemAt_setErr (k : ErrKind) (j : Nat) : (s.setErr k).bmemAt j = s.bmemAt j := rfl
@[simp] theorem State.pmemAt_setErr (k : ErrKind) (j : Nat) : (s.setErr k).pmemAt j = s.pmemAt j := rfl

/-! ### `State.setCursor` -/

@[simp] theorem State.busy_setCursor (x y : Word) : (s.setCursor x y).busy = s.busy := rfl
@[simp] theorem State.done_setCursor (x y : Word) : (s.setCursor x y).done = s.done := rfl
@[simp] theorem State.phase_setCursor (x y : Word) : (s.setCursor x y).phase = s.phase := rfl
@[simp] theorem State.frameW_setCursor (x y : Word) : (s.setCursor x y).frameW = s.frameW := rfl
@[simp] theorem State.frameH_setCursor (x y : Word) : (s.setCursor x y).frameH = s.frameH := rfl
@[simp] theorem State.cols_setCursor (x y : Word) : (s.setCursor x y).cols = s.cols := rfl
@[simp] theorem State.rows_setCursor (x y : Word) : (s.setCursor x y).rows = s.rows := rfl
@[simp] theorem State.maxpix_setCursor (x y : Word) : (s.setCursor x y).maxpix = s.maxpix := rfl
@[simp] theorem State.frameLegal_setCursor (x y : Word) : (s.setCursor x y).frameLegal = s.frameLegal := rfl
@[simp] theorem State.method_setCursor (x y : Word) : (s.setCursor x y).method = s.method := rfl
@[simp] theorem State.polarity_setCursor (x y : Word) : (s.setCursor x y).polarity = s.polarity := rfl
@[simp] theorem State.imemAt_setCursor (x y : Word) (j : Nat) : (s.setCursor x y).imemAt j = s.imemAt j := rfl
@[simp] theorem State.wbufCell_setCursor (x y : Word) (j : Nat) : (s.setCursor x y).wbufCell j = s.wbufCell j := rfl
@[simp] theorem State.wbufAt_setCursor (x y : Word) (j : Nat) : (s.setCursor x y).wbufAt j = s.wbufAt j := rfl
@[simp] theorem State.bmemAt_setCursor (x y : Word) (j : Nat) : (s.setCursor x y).bmemAt j = s.bmemAt j := rfl
@[simp] theorem State.pmemAt_setCursor (x y : Word) (j : Nat) : (s.setCursor x y).pmemAt j = s.pmemAt j := rfl

/-! ### `State.setActcmd` -/

@[simp] theorem State.busy_setActcmd (w : Word) : (s.setActcmd w).busy = s.busy := rfl
@[simp] theorem State.done_setActcmd (w : Word) : (s.setActcmd w).done = s.done := rfl
@[simp] theorem State.phase_setActcmd (w : Word) : (s.setActcmd w).phase = s.phase := rfl
@[simp] theorem State.x_setActcmd (w : Word) : (s.setActcmd w).x = s.x := rfl
@[simp] theorem State.y_setActcmd (w : Word) : (s.setActcmd w).y = s.y := rfl
@[simp] theorem State.frameW_setActcmd (w : Word) : (s.setActcmd w).frameW = s.frameW := rfl
@[simp] theorem State.frameH_setActcmd (w : Word) : (s.setActcmd w).frameH = s.frameH := rfl
@[simp] theorem State.cols_setActcmd (w : Word) : (s.setActcmd w).cols = s.cols := rfl
@[simp] theorem State.rows_setActcmd (w : Word) : (s.setActcmd w).rows = s.rows := rfl
@[simp] theorem State.maxpix_setActcmd (w : Word) : (s.setActcmd w).maxpix = s.maxpix := rfl
@[simp] theorem State.frameLegal_setActcmd (w : Word) : (s.setActcmd w).frameLegal = s.frameLegal := rfl
@[simp] theorem State.imemAt_setActcmd (w : Word) (j : Nat) : (s.setActcmd w).imemAt j = s.imemAt j := rfl
@[simp] theorem State.wbufCell_setActcmd (w : Word) (j : Nat) : (s.setActcmd w).wbufCell j = s.wbufCell j := rfl
@[simp] theorem State.wbufAt_setActcmd (w : Word) (j : Nat) : (s.setActcmd w).wbufAt j = s.wbufAt j := rfl
@[simp] theorem State.bmemAt_setActcmd (w : Word) (j : Nat) : (s.setActcmd w).bmemAt j = s.bmemAt j := rfl
@[simp] theorem State.pmemAt_setActcmd (w : Word) (j : Nat) : (s.setActcmd w).pmemAt j = s.pmemAt j := rfl

/-! ### `State.latchPack` -/

@[simp] theorem State.busy_latchPack : (s.latchPack).busy = s.busy := rfl
@[simp] theorem State.done_latchPack : (s.latchPack).done = s.done := rfl
@[simp] theorem State.phase_latchPack : (s.latchPack).phase = s.phase := rfl
@[simp] theorem State.x_latchPack : (s.latchPack).x = s.x := rfl
@[simp] theorem State.y_latchPack : (s.latchPack).y = s.y := rfl
@[simp] theorem State.frameW_latchPack : (s.latchPack).frameW = s.frameW := rfl
@[simp] theorem State.frameH_latchPack : (s.latchPack).frameH = s.frameH := rfl
@[simp] theorem State.cols_latchPack : (s.latchPack).cols = s.cols := rfl
@[simp] theorem State.rows_latchPack : (s.latchPack).rows = s.rows := rfl
@[simp] theorem State.maxpix_latchPack : (s.latchPack).maxpix = s.maxpix := rfl
@[simp] theorem State.frameLegal_latchPack : (s.latchPack).frameLegal = s.frameLegal := rfl
@[simp] theorem State.method_latchPack : (s.latchPack).method = s.method := rfl
@[simp] theorem State.polarity_latchPack : (s.latchPack).polarity = s.polarity := rfl
@[simp] theorem State.imemAt_latchPack (j : Nat) : (s.latchPack).imemAt j = s.imemAt j := rfl
@[simp] theorem State.wbufCell_latchPack (j : Nat) : (s.latchPack).wbufCell j = s.wbufCell j := rfl
@[simp] theorem State.wbufAt_latchPack (j : Nat) : (s.latchPack).wbufAt j = s.wbufAt j := rfl
@[simp] theorem State.bmemAt_latchPack (j : Nat) : (s.latchPack).bmemAt j = s.bmemAt j := rfl
@[simp] theorem State.pmemAt_latchPack (j : Nat) : (s.latchPack).pmemAt j = s.pmemAt j := rfl

/-! ### `State.setReply` -/

@[simp] theorem State.busy_setReply (r : BusReply) : (s.setReply r).busy = s.busy := rfl
@[simp] theorem State.done_setReply (r : BusReply) : (s.setReply r).done = s.done := rfl
@[simp] theorem State.phase_setReply (r : BusReply) : (s.setReply r).phase = s.phase := rfl
@[simp] theorem State.x_setReply (r : BusReply) : (s.setReply r).x = s.x := rfl
@[simp] theorem State.y_setReply (r : BusReply) : (s.setReply r).y = s.y := rfl
@[simp] theorem State.frameW_setReply (r : BusReply) : (s.setReply r).frameW = s.frameW := rfl
@[simp] theorem State.frameH_setReply (r : BusReply) : (s.setReply r).frameH = s.frameH := rfl
@[simp] theorem State.cols_setReply (r : BusReply) : (s.setReply r).cols = s.cols := rfl
@[simp] theorem State.rows_setReply (r : BusReply) : (s.setReply r).rows = s.rows := rfl
@[simp] theorem State.maxpix_setReply (r : BusReply) : (s.setReply r).maxpix = s.maxpix := rfl
@[simp] theorem State.frameLegal_setReply (r : BusReply) : (s.setReply r).frameLegal = s.frameLegal := rfl
@[simp] theorem State.method_setReply (r : BusReply) : (s.setReply r).method = s.method := rfl
@[simp] theorem State.polarity_setReply (r : BusReply) : (s.setReply r).polarity = s.polarity := rfl
@[simp] theorem State.imemAt_setReply (r : BusReply) (j : Nat) : (s.setReply r).imemAt j = s.imemAt j := rfl
@[simp] theorem State.wbufCell_setReply (r : BusReply) (j : Nat) : (s.setReply r).wbufCell j = s.wbufCell j := rfl
@[simp] theorem State.wbufAt_setReply (r : BusReply) (j : Nat) : (s.setReply r).wbufAt j = s.wbufAt j := rfl
@[simp] theorem State.bmemAt_setReply (r : BusReply) (j : Nat) : (s.setReply r).bmemAt j = s.bmemAt j := rfl
@[simp] theorem State.pmemAt_setReply (r : BusReply) (j : Nat) : (s.setReply r).pmemAt j = s.pmemAt j := rfl

/-! ### `State.writeImem` -/

@[simp] theorem State.busy_writeImem (i : Nat) (v : Code) : (s.writeImem i v).busy = s.busy := rfl
@[simp] theorem State.done_writeImem (i : Nat) (v : Code) : (s.writeImem i v).done = s.done := rfl
@[simp] theorem State.phase_writeImem (i : Nat) (v : Code) : (s.writeImem i v).phase = s.phase := rfl
@[simp] theorem State.x_writeImem (i : Nat) (v : Code) : (s.writeImem i v).x = s.x := rfl
@[simp] theorem State.y_writeImem (i : Nat) (v : Code) : (s.writeImem i v).y = s.y := rfl
@[simp] theorem State.frameW_writeImem (i : Nat) (v : Code) : (s.writeImem i v).frameW = s.frameW := rfl
@[simp] theorem State.frameH_writeImem (i : Nat) (v : Code) : (s.writeImem i v).frameH = s.frameH := rfl
@[simp] theorem State.cols_writeImem (i : Nat) (v : Code) : (s.writeImem i v).cols = s.cols := rfl
@[simp] theorem State.rows_writeImem (i : Nat) (v : Code) : (s.writeImem i v).rows = s.rows := rfl
@[simp] theorem State.maxpix_writeImem (i : Nat) (v : Code) : (s.writeImem i v).maxpix = s.maxpix := rfl
@[simp] theorem State.frameLegal_writeImem (i : Nat) (v : Code) : (s.writeImem i v).frameLegal = s.frameLegal := rfl
@[simp] theorem State.method_writeImem (i : Nat) (v : Code) : (s.writeImem i v).method = s.method := rfl
@[simp] theorem State.polarity_writeImem (i : Nat) (v : Code) : (s.writeImem i v).polarity = s.polarity := rfl
@[simp] theorem State.wbufCell_writeImem (i : Nat) (v : Code) (j : Nat) : (s.writeImem i v).wbufCell j = s.wbufCell j := rfl
@[simp] theorem State.wbufAt_writeImem (i : Nat) (v : Code) (j : Nat) : (s.writeImem i v).wbufAt j = s.wbufAt j := rfl
@[simp] theorem State.bmemAt_writeImem (i : Nat) (v : Code) (j : Nat) : (s.writeImem i v).bmemAt j = s.bmemAt j := rfl
@[simp] theorem State.pmemAt_writeImem (i : Nat) (v : Code) (j : Nat) : (s.writeImem i v).pmemAt j = s.pmemAt j := rfl

/-! ### `State.writeWbuf` -/

@[simp] theorem State.busy_writeWbuf (i : Nat) (v : WorkCell) : (s.writeWbuf i v).busy = s.busy := rfl
@[simp] theorem State.done_writeWbuf (i : Nat) (v : WorkCell) : (s.writeWbuf i v).done = s.done := rfl
@[simp] theorem State.phase_writeWbuf (i : Nat) (v : WorkCell) : (s.writeWbuf i v).phase = s.phase := rfl
@[simp] theorem State.x_writeWbuf (i : Nat) (v : WorkCell) : (s.writeWbuf i v).x = s.x := rfl
@[simp] theorem State.y_writeWbuf (i : Nat) (v : WorkCell) : (s.writeWbuf i v).y = s.y := rfl
@[simp] theorem State.frameW_writeWbuf (i : Nat) (v : WorkCell) : (s.writeWbuf i v).frameW = s.frameW := rfl
@[simp] theorem State.frameH_writeWbuf (i : Nat) (v : WorkCell) : (s.writeWbuf i v).frameH = s.frameH := rfl
@[simp] theorem State.cols_writeWbuf (i : Nat) (v : WorkCell) : (s.writeWbuf i v).cols = s.cols := rfl
@[simp] theorem State.rows_writeWbuf (i : Nat) (v : WorkCell) : (s.writeWbuf i v).rows = s.rows := rfl
@[simp] theorem State.maxpix_writeWbuf (i : Nat) (v : WorkCell) : (s.writeWbuf i v).maxpix = s.maxpix := rfl
@[simp] theorem State.frameLegal_writeWbuf (i : Nat) (v : WorkCell) : (s.writeWbuf i v).frameLegal = s.frameLegal := rfl
@[simp] theorem State.method_writeWbuf (i : Nat) (v : WorkCell) : (s.writeWbuf i v).method = s.method := rfl
@[simp] theorem State.polarity_writeWbuf (i : Nat) (v : WorkCell) : (s.writeWbuf i v).polarity = s.polarity := rfl
@[simp] theorem State.imemAt_writeWbuf (i : Nat) (v : WorkCell) (j : Nat) : (s.writeWbuf i v).imemAt j = s.imemAt j := rfl
@[simp] theorem State.bmemAt_writeWbuf (i : Nat) (v : WorkCell) (j : Nat) : (s.writeWbuf i v).bmemAt j = s.bmemAt j := rfl
@[simp] theorem State.pmemAt_writeWbuf (i : Nat) (v : WorkCell) (j : Nat) : (s.writeWbuf i v).pmemAt j = s.pmemAt j := rfl

/-! ### `State.writeBmem` -/

@[simp] theorem State.busy_writeBmem (i : Nat) (v : PixelBit) : (s.writeBmem i v).busy = s.busy := rfl
@[simp] theorem State.done_writeBmem (i : Nat) (v : PixelBit) : (s.writeBmem i v).done = s.done := rfl
@[simp] theorem State.phase_writeBmem (i : Nat) (v : PixelBit) : (s.writeBmem i v).phase = s.phase := rfl
@[simp] theorem State.x_writeBmem (i : Nat) (v : PixelBit) : (s.writeBmem i v).x = s.x := rfl
@[simp] theorem State.y_writeBmem (i : Nat) (v : PixelBit) : (s.writeBmem i v).y = s.y := rfl
@[simp] theorem State.frameW_writeBmem (i : Nat) (v : PixelBit) : (s.writeBmem i v).frameW = s.frameW := rfl
@[simp] theorem State.frameH_writeBmem (i : Nat) (v : PixelBit) : (s.writeBmem i v).frameH = s.frameH := rfl
@[simp] theorem State.cols_writeBmem (i : Nat) (v : PixelBit) : (s.writeBmem i v).cols = s.cols := rfl
@[simp] theorem State.rows_writeBmem (i : Nat) (v : PixelBit) : (s.writeBmem i v).rows = s.rows := rfl
@[simp] theorem State.maxpix_writeBmem (i : Nat) (v : PixelBit) : (s.writeBmem i v).maxpix = s.maxpix := rfl
@[simp] theorem State.frameLegal_writeBmem (i : Nat) (v : PixelBit) : (s.writeBmem i v).frameLegal = s.frameLegal := rfl
@[simp] theorem State.method_writeBmem (i : Nat) (v : PixelBit) : (s.writeBmem i v).method = s.method := rfl
@[simp] theorem State.polarity_writeBmem (i : Nat) (v : PixelBit) : (s.writeBmem i v).polarity = s.polarity := rfl
@[simp] theorem State.imemAt_writeBmem (i : Nat) (v : PixelBit) (j : Nat) : (s.writeBmem i v).imemAt j = s.imemAt j := rfl
@[simp] theorem State.wbufCell_writeBmem (i : Nat) (v : PixelBit) (j : Nat) : (s.writeBmem i v).wbufCell j = s.wbufCell j := rfl
@[simp] theorem State.wbufAt_writeBmem (i : Nat) (v : PixelBit) (j : Nat) : (s.writeBmem i v).wbufAt j = s.wbufAt j := rfl
@[simp] theorem State.pmemAt_writeBmem (i : Nat) (v : PixelBit) (j : Nat) : (s.writeBmem i v).pmemAt j = s.pmemAt j := rfl

/-! ### `State.writePmem` -/

@[simp] theorem State.busy_writePmem (i : Nat) (v : Byte) : (s.writePmem i v).busy = s.busy := rfl
@[simp] theorem State.done_writePmem (i : Nat) (v : Byte) : (s.writePmem i v).done = s.done := rfl
@[simp] theorem State.phase_writePmem (i : Nat) (v : Byte) : (s.writePmem i v).phase = s.phase := rfl
@[simp] theorem State.x_writePmem (i : Nat) (v : Byte) : (s.writePmem i v).x = s.x := rfl
@[simp] theorem State.y_writePmem (i : Nat) (v : Byte) : (s.writePmem i v).y = s.y := rfl
@[simp] theorem State.frameW_writePmem (i : Nat) (v : Byte) : (s.writePmem i v).frameW = s.frameW := rfl
@[simp] theorem State.frameH_writePmem (i : Nat) (v : Byte) : (s.writePmem i v).frameH = s.frameH := rfl
@[simp] theorem State.cols_writePmem (i : Nat) (v : Byte) : (s.writePmem i v).cols = s.cols := rfl
@[simp] theorem State.rows_writePmem (i : Nat) (v : Byte) : (s.writePmem i v).rows = s.rows := rfl
@[simp] theorem State.maxpix_writePmem (i : Nat) (v : Byte) : (s.writePmem i v).maxpix = s.maxpix := rfl
@[simp] theorem State.frameLegal_writePmem (i : Nat) (v : Byte) : (s.writePmem i v).frameLegal = s.frameLegal := rfl
@[simp] theorem State.method_writePmem (i : Nat) (v : Byte) : (s.writePmem i v).method = s.method := rfl
@[simp] theorem State.polarity_writePmem (i : Nat) (v : Byte) : (s.writePmem i v).polarity = s.polarity := rfl
@[simp] theorem State.imemAt_writePmem (i : Nat) (v : Byte) (j : Nat) : (s.writePmem i v).imemAt j = s.imemAt j := rfl
@[simp] theorem State.wbufCell_writePmem (i : Nat) (v : Byte) (j : Nat) : (s.writePmem i v).wbufCell j = s.wbufCell j := rfl
@[simp] theorem State.wbufAt_writePmem (i : Nat) (v : Byte) (j : Nat) : (s.writePmem i v).wbufAt j = s.wbufAt j := rfl
@[simp] theorem State.bmemAt_writePmem (i : Nat) (v : Byte) (j : Nat) : (s.writePmem i v).bmemAt j = s.bmemAt j := rfl

/-! ### `State.raise` -/

@[simp] theorem State.x_raise (k : ErrKind) (info : ErrInfo) : (s.raise k info).x = s.x := by cases info <;> rfl
@[simp] theorem State.y_raise (k : ErrKind) (info : ErrInfo) : (s.raise k info).y = s.y := by cases info <;> rfl
@[simp] theorem State.frameW_raise (k : ErrKind) (info : ErrInfo) : (s.raise k info).frameW = s.frameW := by cases info <;> rfl
@[simp] theorem State.frameH_raise (k : ErrKind) (info : ErrInfo) : (s.raise k info).frameH = s.frameH := by cases info <;> rfl
@[simp] theorem State.cols_raise (k : ErrKind) (info : ErrInfo) : (s.raise k info).cols = s.cols := by cases info <;> rfl
@[simp] theorem State.rows_raise (k : ErrKind) (info : ErrInfo) : (s.raise k info).rows = s.rows := by cases info <;> rfl
@[simp] theorem State.maxpix_raise (k : ErrKind) (info : ErrInfo) : (s.raise k info).maxpix = s.maxpix := by cases info <;> rfl
@[simp] theorem State.frameLegal_raise (k : ErrKind) (info : ErrInfo) : (s.raise k info).frameLegal = s.frameLegal := by cases info <;> rfl
@[simp] theorem State.method_raise (k : ErrKind) (info : ErrInfo) : (s.raise k info).method = s.method := by cases info <;> rfl
@[simp] theorem State.polarity_raise (k : ErrKind) (info : ErrInfo) : (s.raise k info).polarity = s.polarity := by cases info <;> rfl
@[simp] theorem State.imemAt_raise (k : ErrKind) (info : ErrInfo) (j : Nat) : (s.raise k info).imemAt j = s.imemAt j := by cases info <;> rfl
@[simp] theorem State.wbufCell_raise (k : ErrKind) (info : ErrInfo) (j : Nat) : (s.raise k info).wbufCell j = s.wbufCell j := by cases info <;> rfl
@[simp] theorem State.wbufAt_raise (k : ErrKind) (info : ErrInfo) (j : Nat) : (s.raise k info).wbufAt j = s.wbufAt j := by cases info <;> rfl
@[simp] theorem State.bmemAt_raise (k : ErrKind) (info : ErrInfo) (j : Nat) : (s.raise k info).bmemAt j = s.bmemAt j := by cases info <;> rfl
@[simp] theorem State.pmemAt_raise (k : ErrKind) (info : ErrInfo) (j : Nat) : (s.raise k info).pmemAt j = s.pmemAt j := by cases info <;> rfl

/-! ### `State.acknowledge` -/

@[simp] theorem State.x_acknowledge (d : Word) : (s.acknowledge d).x = s.x := rfl
@[simp] theorem State.y_acknowledge (d : Word) : (s.acknowledge d).y = s.y := rfl
@[simp] theorem State.frameW_acknowledge (d : Word) : (s.acknowledge d).frameW = s.frameW := rfl
@[simp] theorem State.frameH_acknowledge (d : Word) : (s.acknowledge d).frameH = s.frameH := rfl
@[simp] theorem State.cols_acknowledge (d : Word) : (s.acknowledge d).cols = s.cols := rfl
@[simp] theorem State.rows_acknowledge (d : Word) : (s.acknowledge d).rows = s.rows := rfl
@[simp] theorem State.maxpix_acknowledge (d : Word) : (s.acknowledge d).maxpix = s.maxpix := rfl
@[simp] theorem State.frameLegal_acknowledge (d : Word) : (s.acknowledge d).frameLegal = s.frameLegal := rfl
@[simp] theorem State.method_acknowledge (d : Word) : (s.acknowledge d).method = s.method := rfl
@[simp] theorem State.polarity_acknowledge (d : Word) : (s.acknowledge d).polarity = s.polarity := rfl
@[simp] theorem State.imemAt_acknowledge (d : Word) (j : Nat) : (s.acknowledge d).imemAt j = s.imemAt j := rfl
@[simp] theorem State.wbufCell_acknowledge (d : Word) (j : Nat) : (s.acknowledge d).wbufCell j = s.wbufCell j := rfl
@[simp] theorem State.wbufAt_acknowledge (d : Word) (j : Nat) : (s.acknowledge d).wbufAt j = s.wbufAt j := rfl
@[simp] theorem State.bmemAt_acknowledge (d : Word) (j : Nat) : (s.acknowledge d).bmemAt j = s.bmemAt j := rfl
@[simp] theorem State.pmemAt_acknowledge (d : Word) (j : Nat) : (s.acknowledge d).pmemAt j = s.pmemAt j := rfl

end Sys2Proof.Machine
end

