-- ==== Sys2Proof/Laws/Flags.lean ====
section
/-! SUPPORT. The bits of STATUS under the named updates. -/

namespace Sys2Proof.Machine

theorem getLsbD_one_shiftLeft (i j : Nat) (hi : i < 32) : (1#32 <<< i).getLsbD j = decide (j = i) := by
  by_cases h : j = i
  · subst h; simp [hi]
  · simp only [BitVec.getLsbD_shiftLeft, BitVec.getLsbD_one, h, decide_false]
    have : ¬ (j - i = 0 ∧ i ≤ j) := by omega
    by_cases hij : j < i <;> simp [hij]
    omega

/-- Every bit of a word with one bit set or cleared. -/
@[simp] theorem getLsbD_withBit (w : Word) (i j : Nat) (b : Bool) (hi : i < 32) :
    (withBit w i b).getLsbD j = if j = i then b else w.getLsbD j := by
  unfold withBit
  cases b
  · by_cases hj : j < 32
    · simp only [Bool.false_eq_true, if_false, BitVec.getLsbD_and, BitVec.getLsbD_not, hj, decide_true,
        getLsbD_one_shiftLeft i j hi, Bool.true_and]
      by_cases h : j = i <;> simp [h]
    · have : j ≠ i := by omega
      simp [this, BitVec.getLsbD_of_ge w j (by omega)]
  · simp only [if_true, BitVec.getLsbD_or, getLsbD_one_shiftLeft i j hi]
    by_cases h : j = i <;> simp [h]

@[simp] theorem getElem_withBit (w : Word) (i j : Nat) (b : Bool) (hi : i < 32) (hj : j < 32) :
    (withBit w i b)[j] = if j = i then b else w[j] := by
  simpa only [BitVec.getLsbD_eq_getElem hj] using getLsbD_withBit w i j b hi

theorem ErrKind.code_lt (k : ErrKind) : k.code < 32 := by cases k <;> decide

@[simp] theorem phaseOfBits_hi_lo (p : Phase) : phaseOfBits p.hi p.lo = p := by cases p <;> rfl

variable (s : State)

/-! ### BUSY -/

@[simp] theorem State.busy_setBusy (b : Bool) : (s.setBusy b).busy = b := by simp [State.busy]
@[simp] theorem State.busy_setDone (b : Bool) : (s.setDone b).busy = s.busy := by simp [State.busy]
@[simp] theorem State.busy_setPhase (p : Phase) : (s.setPhase p).busy = s.busy := by simp [State.busy]
@[simp] theorem State.busy_setErr (k : ErrKind) : (s.setErr k).busy = s.busy := by
  cases k <;> simp [State.busy, ErrKind.code]

/-! ### DONE -/

@[simp] theorem State.done_setBusy (b : Bool) : (s.setBusy b).done = s.done := by simp [State.done]
@[simp] theorem State.done_setDone (b : Bool) : (s.setDone b).done = b := by simp [State.done]
@[simp] theorem State.done_setPhase (p : Phase) : (s.setPhase p).done = s.done := by simp [State.done]
@[simp] theorem State.done_setErr (k : ErrKind) : (s.setErr k).done = s.done := by
  cases k <;> simp [State.done, ErrKind.code]

/-! ### PHASE -/

@[simp] theorem State.phase_setBusy (b : Bool) : (s.setBusy b).phase = s.phase := by simp [State.phase]
@[simp] theorem State.phase_setDone (b : Bool) : (s.setDone b).phase = s.phase := by simp [State.phase]
@[simp] theorem State.phase_setPhase (p : Phase) : (s.setPhase p).phase = p := by simp [State.phase]
@[simp] theorem State.phase_setErr (k : ErrKind) : (s.setErr k).phase = s.phase := by
  cases k <;> simp [State.phase, ErrKind.code]

/-! ### The error flags -/

@[simp] theorem State.errFlag_setErr (k k' : ErrKind) :
    (s.setErr k).errFlag k' = (decide (k' = k) || s.errFlag k') := by
  cases k <;> cases k' <;> simp [State.errFlag, ErrKind.code]

@[simp] theorem State.errFlag_setBusy (b : Bool) (k : ErrKind) : (s.setBusy b).errFlag k = s.errFlag k := by
  cases k <;> simp [State.errFlag, ErrKind.code]
@[simp] theorem State.errFlag_setDone (b : Bool) (k : ErrKind) : (s.setDone b).errFlag k = s.errFlag k := by
  cases k <;> simp [State.errFlag, ErrKind.code]
@[simp] theorem State.errFlag_setPhase (p : Phase) (k : ErrKind) : (s.setPhase p).errFlag k = s.errFlag k := by
  cases k <;> simp [State.errFlag, ErrKind.code]

/-- The mask of an error flag (R220). -/
def ErrKind.mask : ErrKind → Word
  | .dim => 0x100#32
  | .cmd => 0x200#32
  | .busy => 0x400#32
  | .addr => 0x800#32

/-- Setting a flag as an OR with its mask. -/
theorem withBit_code (w : Word) (k : ErrKind) : withBit w k.code true = w ||| k.mask := by
  cases k <;> simp [withBit, ErrKind.code, ErrKind.mask]

/-- Two words with the same 32 bits are the same word. -/
theorem word_ext {v w : Word} (h : ∀ i, i < 32 → v.getLsbD i = w.getLsbD i) : v = w :=
  BitVec.eq_of_getLsbD_eq h

end Sys2Proof.Machine
end

