-- ==== Sys2Proof/Laws/Memory.lean ====
section
/-! SUPPORT. What a memory reads after a write, and that every memory operation keeps the canonical form. -/

namespace Sys2Proof.Machine

variable {w : Nat}

@[simp] theorem Memory.find_nil (i : Nat) : Memory.find ([] : Memory w) i = none := rfl

/-- A read after a write to the same place gives the value written. -/
@[simp] theorem Memory.find_insert_same (m : Memory w) (i : Nat) (v : BitVec w) :
    (m.insert i v).find i = some v := by
  induction m with
  | nil => simp [Memory.insert, Memory.find]
  | cons e rest ih =>
    obtain ⟨a, u⟩ := e
    unfold Memory.insert
    split
    · simp [Memory.find]
    · split
      · simp [Memory.find]
      · simp [Memory.find, *]

/-- A write leaves every other place alone. -/
theorem Memory.find_insert_other (m : Memory w) {i j : Nat} (v : BitVec w) (h : j ≠ i) :
    (m.insert i v).find j = m.find j := by
  induction m with
  | nil => simp [Memory.insert, Memory.find, h]
  | cons e rest ih =>
    obtain ⟨a, u⟩ := e
    unfold Memory.insert
    split
    · subst_vars; simp [Memory.find, h]
    · split
      · by_cases hj : j < i
        · have : ¬ j = a := by omega
          have : j < a := by omega
          simp [Memory.find, *]
        · simp [Memory.find, *]
      · simp only [Memory.find]
        split
        · rfl
        · split
          · rfl
          · exact ih

/-- One lemma for both: a read after a write. -/
theorem Memory.find_insert (m : Memory w) (i j : Nat) (v : BitVec w) :
    (m.insert i v).find j = if j = i then some v else m.find j := by
  split
  · subst_vars; exact m.find_insert_same _ v
  · exact m.find_insert_other v ‹_›

theorem Memory.wfFrom_mono {lo lo' hi : Nat} {m : Memory w} (hm : Memory.wfFrom lo' hi m = true)
    (h : lo ≤ lo') : Memory.wfFrom lo hi m = true := by
  cases m with
  | nil => rfl
  | cons e rest =>
    simp only [Memory.wfFrom, Bool.and_eq_true, decide_eq_true_eq] at hm ⊢
    exact ⟨⟨by omega, hm.1.2⟩, hm.2⟩

theorem Memory.wfFrom_insert {lo hi i : Nat} {m : Memory w} (v : BitVec w)
    (hm : Memory.wfFrom lo hi m = true) (hlo : lo ≤ i) (hhi : i < hi) :
    Memory.wfFrom lo hi (m.insert i v) = true := by
  induction m generalizing lo with
  | nil => simp [Memory.insert, Memory.wfFrom, hlo, hhi]
  | cons e rest ih =>
    obtain ⟨a, u⟩ := e
    simp only [Memory.wfFrom, Bool.and_eq_true, decide_eq_true_eq] at hm
    unfold Memory.insert
    split
    · subst_vars; simp [Memory.wfFrom, hm]
    · split
      · simp only [Memory.wfFrom, Bool.and_eq_true, decide_eq_true_eq]
        exact ⟨⟨hlo, hhi⟩, ⟨⟨by omega, hm.1.2⟩, hm.2⟩⟩
      · simp only [Memory.wfFrom, Bool.and_eq_true, decide_eq_true_eq]
        exact ⟨hm.1, ih hm.2 (by omega)⟩

/-- The empty memory is in canonical form. -/
@[simp] theorem Memory.wf_nil (cap : Nat) : Memory.wf cap ([] : Memory w) = true := rfl

/-- A write below the capacity keeps the canonical form. -/
theorem Memory.wf_insert {cap i : Nat} {m : Memory w} (v : BitVec w) (hm : m.wf cap = true) (hi : i < cap) :
    (m.insert i v).wf cap = true :=
  Memory.wfFrom_insert v hm (Nat.zero_le i) hi

/-- Below its first possible index a canonical memory lists nothing. -/
theorem Memory.find_of_lt {lo hi i : Nat} {m : Memory w} (hm : Memory.wfFrom lo hi m = true) (h : i < lo) :
    m.find i = none := by
  cases m with
  | nil => rfl
  | cons e rest =>
    obtain ⟨a, u⟩ := e
    simp only [Memory.wfFrom, Bool.and_eq_true, decide_eq_true_eq] at hm
    have h1 : ¬ i = a := by omega
    have h2 : i < a := by omega
    simp [Memory.find, h1, h2]

/-- Equal contents are equal data: two canonical memories with the same written elements are the same list. -/
theorem Memory.ext_find {lo hi : Nat} {m n : Memory w} (hm : Memory.wfFrom lo hi m = true)
    (hn : Memory.wfFrom lo hi n = true) (h : ∀ i, m.find i = n.find i) : m = n := by
  induction m generalizing lo n with
  | nil =>
    cases n with
    | nil => rfl
    | cons e rest => obtain ⟨a, u⟩ := e; simpa [Memory.find] using h a
  | cons e rest ih =>
    obtain ⟨a, u⟩ := e
    cases n with
    | nil => simpa [Memory.find] using h a
    | cons e' rest' =>
      obtain ⟨a', u'⟩ := e'
      simp only [Memory.wfFrom, Bool.and_eq_true, decide_eq_true_eq] at hm hn
      have ha : a = a' := by
        rcases Nat.lt_trichotomy a a' with hlt | heq | hgt
        · have := h a; have h1 : ¬ a = a' := by omega
          simp [Memory.find, h1, hlt] at this
        · exact heq
        · have := h a'; have h1 : ¬ a' = a := by omega
          simp [Memory.find, h1, hgt] at this
      subst ha
      have hu : u = u' := by simpa [Memory.find] using h a
      subst hu
      have hr : rest = rest' := by
        refine ih hm.2 hn.2 fun i => ?_
        by_cases hi : i < a + 1
        · rw [Memory.find_of_lt hm.2 hi, Memory.find_of_lt hn.2 hi]
        · have := h i
          have h1 : ¬ i = a := by omega
          have h2 : ¬ i < a := by omega
          simpa [Memory.find, h1, h2] using this
      rw [hr]

/-! ### The state's reads after its writes -/

variable (s : State)

theorem State.imemAt_writeImem (i j : Nat) (v : Code) :
    (s.writeImem i v).imemAt j = if j = i then v else s.imemAt j := by
  simp only [State.imemAt, State.writeImem, Memory.find_insert]; split <;> rfl

theorem State.wbufCell_writeWbuf (i j : Nat) (v : WorkCell) :
    (s.writeWbuf i v).wbufCell j = if j = i then v else s.wbufCell j := by
  simp only [State.wbufCell, State.writeWbuf, Memory.find_insert]; split <;> rfl

theorem State.wbufAt_writeWbuf (i j : Nat) (v : WorkCell) :
    (s.writeWbuf i v).wbufAt j = if j = i then v.toInt else s.wbufAt j := by
  simp only [State.wbufAt, State.wbufCell_writeWbuf]; split <;> rfl

theorem State.bmemAt_writeBmem (i j : Nat) (v : PixelBit) :
    (s.writeBmem i v).bmemAt j = if j = i then v else s.bmemAt j := by
  simp only [State.bmemAt, State.writeBmem, Memory.find_insert]; split <;> rfl

theorem State.pmemAt_writePmem (i j : Nat) (v : Byte) :
    (s.writePmem i v).pmemAt j = if j = i then v else s.pmemAt j := by
  simp only [State.pmemAt, State.writePmem, Memory.find_insert]; split <;> rfl

end Sys2Proof.Machine
end

