-- ==== Sys2Proof/Laws/Ops.lean ====
section
/-! SUPPORT. For each shared operation one lemma that says what it can do, for proofs to cite. -/

namespace Sys2Proof.Machine

variable (s : State)

/-! ### The refusal (R220, R229) -/

theorem State.raise_command_eq (k : ErrKind) (w : Word) :
    s.raise k (.command w) = { s with status := withBit s.status k.code true, errcmd := w } := rfl

theorem State.raise_access_eq (k : ErrKind) (a : BusAddr) :
    s.raise k (.access a) = { s with status := withBit s.status k.code true, erraddr := a.setWidth 32 } := rfl

@[simp] theorem State.busy_raise (k : ErrKind) (info : ErrInfo) : (s.raise k info).busy = s.busy := by
  rw [State.busy, State.raise_status]; exact s.busy_setErr k

@[simp] theorem State.done_raise (k : ErrKind) (info : ErrInfo) : (s.raise k info).done = s.done := by
  rw [State.done, State.raise_status]; exact s.done_setErr k

@[simp] theorem State.phase_raise (k : ErrKind) (info : ErrInfo) : (s.raise k info).phase = s.phase := by
  rw [State.phase, State.raise_status]; exact s.phase_setErr k

/-! ### The return (R230) -/

@[simp] theorem State.busy_acknowledge (d : Word) : (s.acknowledge d).busy = s.busy := by
  simp [State.busy, Config.flagMask]

@[simp] theorem State.phase_acknowledge (d : Word) : (s.acknowledge d).phase = s.phase := by
  simp [State.phase, Config.flagMask]

/-! ### Derived quantities depend on few fields -/

theorem State.frameW_congr {s t : State} (h : t.width = s.width) : t.frameW = s.frameW := by
  simp [State.frameW, h]

theorem State.frameH_congr {s t : State} (h : t.height = s.height) : t.frameH = s.frameH := by
  simp [State.frameH, h]

theorem State.cols_congr {s t : State} (h : t.width = s.width) : t.cols = s.cols := by
  simp [State.cols, State.frameW_congr h]

theorem State.rows_congr {s t : State} (h : t.height = s.height) : t.rows = s.rows := by
  simp [State.rows, State.frameH_congr h]

theorem State.maxpix_congr {s t : State} (h : t.capQuads = s.capQuads) : t.maxpix = s.maxpix := by
  simp [State.maxpix, h]

/-- MAXPIX is a legal capacity in every state (R6). -/
theorem State.maxpix_bounds : 4 ≤ s.maxpix ∧ s.maxpix ≤ 4194304 ∧ s.maxpix % 4 = 0 := by
  have := s.capQuads.isLt
  unfold State.maxpix
  omega

/-- A legal frame in natural numbers (R176). -/
theorem State.frameLegal_iff :
    s.frameLegal = true ↔ 0 < s.frameW ∧ 0 < s.frameH ∧ s.frameW * s.frameH ≤ s.maxpix := by
  simp [State.frameLegal, and_assoc]

theorem State.frameLegal_nat (h : s.frameLegal = true) :
    (s.cols : Int) = s.frameW ∧ (s.rows : Int) = s.frameH ∧ 0 < s.cols ∧ 0 < s.rows ∧
      s.cols * s.rows ≤ s.maxpix := by
  obtain ⟨hw, hh, hp⟩ := s.frameLegal_iff.mp h
  have h1 : (s.cols : Int) = s.frameW := Int.toNat_of_nonneg (by omega)
  have h2 : (s.rows : Int) = s.frameH := Int.toNat_of_nonneg (by omega)
  refine ⟨h1, h2, by omega, by omega, ?_⟩
  rw [← h1, ← h2] at hp
  exact_mod_cast hp

/-! ### Acceptance (R176) -/

/-- Everything acceptance does: the state it leaves, field by field. -/
theorem State.begin_eq (w : Word) :
    s.begin w = { s with
      actcmd := w
      status := (((s.setDone false).setBusy true).setPhase (if hasDither w then .seed else .pack)).status
      curx := 0#32
      cury := 0#32
      stride := if hasPack w then BitVec.ofNat 32 (ceil8 s.cols) else s.stride
      plen := if hasPack w then BitVec.ofNat 32 (s.rows * ceil8 s.cols) else s.plen } := by
  unfold State.begin; cases hasPack w <;> rfl

/-- STATUS after acceptance as masks: the four low bits written, the rest kept (R176). -/
theorem State.status_begin (w : Word) :
    (s.begin w).status = (s.status &&& 0xFFFFFFF0#32) ||| (if hasDither w then 0x5#32 else 0xD#32) := by
  rw [State.begin_eq]
  cases hasDither w <;>
  · apply word_ext
    intro i hi
    simp
    rcases Nat.lt_or_ge i 4 with h | h
    · interval_cases i <;> simp [Phase.hi, Phase.lo]
    · interval_cases i <;> simp

@[simp] theorem State.busy_begin (w : Word) : (s.begin w).busy = true := by
  simp only [State.begin]; cases hasPack w <;> simp

@[simp] theorem State.done_begin (w : Word) : (s.begin w).done = false := by
  simp only [State.begin]; cases hasPack w <;> simp

@[simp] theorem State.phase_begin (w : Word) :
    (s.begin w).phase = if hasDither w then .seed else .pack := by
  simp only [State.begin]; simp

/-- The three outcomes of a command with a stage (R175, R176). -/
theorem startCommand_cases (w : Word) :
    (s.busy = true ∧ startCommand w s = s.raise .busy (.command w)) ∨
    (s.busy = false ∧ s.frameLegal = false ∧ startCommand w s = s.raise .dim (.command w)) ∨
    (s.busy = false ∧ s.frameLegal = true ∧ startCommand w s = s.begin w) := by
  unfold startCommand accept
  cases s.busy <;> cases s.frameLegal <;> simp

/-! ### The cursor and the end of a phase (R24, R181, R182) -/

/-- What `advance` can do: the next position of the row, or the first of the next row. -/
theorem State.advance_cases (lim : Nat) :
    (s.x + 1 < lim ∧ s.advance lim = { s with curx := s.curx + 1#32 }) ∨
    (lim ≤ s.x + 1 ∧ s.advance lim = { s with curx := 0#32, cury := s.cury + 1#32 }) := by
  unfold State.advance
  by_cases h : s.x + 1 < lim
  · exact .inl ⟨h, by rw [if_pos h]; rfl⟩
  · exact .inr ⟨by omega, by rw [if_neg h]; rfl⟩

/-- Completion (R182): BUSY 0, DONE 1, PHASE IDLE, and only STATUS is written. -/
theorem complete_eq :
    complete s = { s with status := (((s.setPhase .idle).setBusy false).setDone true).status } := rfl

@[simp] theorem busy_complete : (complete s).busy = false := by simp [complete]
@[simp] theorem done_complete : (complete s).done = true := by simp [complete]
@[simp] theorem phase_complete : (complete s).phase = .idle := by simp [complete]

/-- What the end of a phase can do (R181). -/
theorem phaseEnd_cases :
    (s.phase = .seed ∧ phaseEnd s = (s.setCursor 0#32 0#32).setPhase .diffuse) ∨
    (s.phase = .diffuse ∧ hasPack s.actcmd = true ∧ phaseEnd s = (s.setCursor 0#32 0#32).setPhase .pack) ∨
    (s.phase = .diffuse ∧ hasPack s.actcmd = false ∧ phaseEnd s = complete (s.setCursor 0#32 0#32)) ∨
    (s.phase = .pack ∧ phaseEnd s = complete (s.setCursor 0#32 0#32)) ∨
    (s.phase = .idle ∧ phaseEnd s = s.setCursor 0#32 0#32) := by
  unfold phaseEnd
  cases h : s.phase <;> simp
  cases hasPack s.actcmd <;> simp

/-- The end of a step writes only STATUS and the cursor. -/
theorem endStep_frame :
    ∃ st cx cy, endStep s = { s with status := st, curx := cx, cury := cy } := by
  unfold endStep
  split
  · rcases phaseEnd_cases s with ⟨-, h⟩ | ⟨-, -, h⟩ | ⟨-, -, h⟩ | ⟨-, h⟩ | ⟨-, h⟩ <;> rw [h] <;> exact ⟨_, _, _, rfl⟩
  · exact ⟨s.status, s.curx, s.cury, rfl⟩

/-! ### The resets (R179, R250) -/

@[simp] theorem State.busy_clearRegisters : s.clearRegisters.busy = false := by simp [State.busy]
@[simp] theorem State.phase_clearRegisters : s.clearRegisters.phase = .idle := by simp [State.phase, phaseOfBits]

end Sys2Proof.Machine
end

