-- ==== Sys2Proof/Laws/Engine.lean ====
section
/-! SUPPORT. What one engine step can do (spec/43_control.md R180), and what each of its parts can do. -/

namespace Sys2Proof.Machine

variable {s t : State}

/-- What a deposit can do (R134): nothing outside the frame; inside, the one cell gets the sum. -/
theorem deposit_cases {x y d : Int} (h : deposit x y d s = some t) :
    (s.inFrame x y = false ∧ t = s) ∨
    (s.inFrame x y = true ∧ ∃ c : WorkCell, c.toInt = s.wbufAt (y * s.frameW + x).toNat + d ∧
      t = s.writeWbuf (y * s.frameW + x).toNat c) := by
  unfold deposit at h
  split at h
  · rename_i hin
    obtain ⟨c, hc, rfl⟩ := Option.map_eq_some_iff.mp h
    exact .inr ⟨hin, c, cellOfInt_toInt hc, rfl⟩
  · rename_i hin
    exact .inl ⟨by simpa using hin, by simpa using h.symm⟩

/-- Deposits write WBUF and nothing else. -/
theorem depositAll_frame {x y : Int} {l : List Share} (h : depositAll x y l s = some t) :
    ∃ m, t = { s with wbuf := m } := by
  induction l generalizing s with
  | nil => exact ⟨s.wbuf, (Option.some.inj h).symm⟩
  | cons a rest ih =>
    obtain ⟨u, hu, hr⟩ := Option.bind_eq_some_iff.mp h
    obtain ⟨m, rfl⟩ := ih hr
    rcases deposit_cases hu with ⟨-, rfl⟩ | ⟨-, c, -, rfl⟩
    · exact ⟨m, rfl⟩
    · exact ⟨m, rfl⟩

/-- A visit (R132, R133): the bit of the pixel and the deposits of its error, then the cursor. -/
theorem diffuseStep_cases (h : diffuseStep s = some t) :
    ∃ m, depositAll s.x s.y (sharesOf s.method (quantError (s.wbufAt s.cursorIndex)))
          (s.writeBmem s.cursorIndex (decision (s.wbufAt s.cursorIndex))) =
        some { s.writeBmem s.cursorIndex (decision (s.wbufAt s.cursorIndex)) with wbuf := m } ∧
      t = State.advance s.cols
        { s.writeBmem s.cursorIndex (decision (s.wbufAt s.cursorIndex)) with wbuf := m } := by
  unfold diffuseStep at h
  obtain ⟨u, hu, rfl⟩ := Option.map_eq_some_iff.mp h
  obtain ⟨m, rfl⟩ := depositAll_frame hu
  exact ⟨m, hu, rfl⟩

/-- Everything an engine step can do, when it answers a next state (R180). -/
theorem engineStep_cases (h : engineStep s = .next t) :
    (s.busy = false ∧ t = s) ∨
    (s.busy = true ∧ s.engineReady = true ∧ s.phase = .seed ∧ t = endStep (seedStep s)) ∨
    (s.busy = true ∧ s.engineReady = true ∧ s.phase = .diffuse ∧
      ∃ u, diffuseStep s = some u ∧ t = endStep u) ∨
    (s.busy = true ∧ s.engineReady = true ∧ s.phase = .pack ∧ t = endStep (packStep s)) := by
  unfold engineStep at h
  split at h
  · cases h; exact .inl ⟨‹_›, rfl⟩
  · rename_i hb
    split at h
    · cases h
    · rename_i hr
      have hb' : s.busy = true := by simpa using hb
      have hr' : s.engineReady = true := by simpa using hr
      split at h
      · cases h
      · rename_i hp; cases h; exact .inr (.inl ⟨hb', hr', hp, rfl⟩)
      · rename_i hp
        split at h
        · rename_i u hu; cases h; exact .inr (.inr (.inl ⟨hb', hr', hp, u, hu, rfl⟩))
        · cases h
      · rename_i hp; cases h; exact .inr (.inr (.inr ⟨hb', hr', hp, rfl⟩))

/-- An idle engine has no step (R180). -/
theorem engineStep_idle (h : s.busy = false) : engineStep s = .next s := by simp [engineStep, h]

/-- What a running command's state satisfies, in natural numbers (R49, R74). -/
theorem State.engineReady_nat (h : s.engineReady = true) :
    (s.cols : Int) = s.frameW ∧ (s.rows : Int) = s.frameH ∧ 0 < s.cols ∧ 0 < s.rows ∧
      s.cols * s.rows ≤ s.maxpix ∧ s.x < s.limit ∧ s.y < s.rows ∧
      (s.phase = .pack → s.stride.toNat = ceil8 s.cols) := by
  simp only [State.engineReady, Bool.and_eq_true, decide_eq_true_eq, Bool.or_eq_true, bne_iff_ne, ne_eq,
    beq_iff_eq] at h
  obtain ⟨⟨⟨hl, hx⟩, hy⟩, hp⟩ := h
  obtain ⟨h1, h2, h3, h4, h5⟩ := s.frameLegal_nat hl
  exact ⟨h1, h2, h3, h4, h5, hx, hy, fun hq => hp.resolve_left fun hn => hn hq⟩

/-- The linear index of a position inside the frame is below the capacity (R74). -/
theorem index_lt {w h x y cap : Nat} (hx : x < w) (hy : y < h) (hc : w * h ≤ cap) : y * w + x < cap := by
  calc y * w + x < y * w + w := by omega
    _ = (y + 1) * w := by ring
    _ ≤ h * w := Nat.mul_le_mul_right w hy
    _ = w * h := by ring
    _ ≤ cap := hc

/-- Several engine steps: one, then the rest. -/
theorem engineRun_succ {k : Nat} (h : engineRun (k + 1) s = .next t) :
    ∃ u, engineStep s = .next u ∧ engineRun k u = .next t := by
  unfold engineRun at h
  split at h
  · exact ⟨_, ‹_›, h⟩
  · cases h
  · cases h

/-- Runs compose. -/
theorem engineRun_add {j k : Nat} {u : State} (h : engineRun j s = .next u) :
    engineRun (j + k) s = engineRun k u := by
  induction j generalizing s with
  | zero => cases h; simp
  | succ j ih =>
    obtain ⟨v, hv, hr⟩ := engineRun_succ h
    rw [Nat.add_right_comm]
    simp only [engineRun, hv]
    exact ih hr

end Sys2Proof.Machine
end

