-- ==== Sys2Proof/Laws/Bus.lean ====
section
/-! SUPPORT. What a bus transaction and a step can do (spec/20_memory.md R61, R62, R66). -/

namespace Sys2Proof.Machine

variable {s t : State}

/-- What `mapNext` answers. -/
theorem mapNext_eq_next {f : State → State} {o : Host.Outcome State Fault Refusal}
    (h : mapNext f o = .next t) : ∃ u, o = .next u ∧ t = f u := by
  cases o with
  | next u => cases h; exact ⟨u, rfl, rfl⟩
  | fault r => cases h
  | refused r => cases h

@[simp] theorem mapNext_next (f : State → State) (u : State) : mapNext f (.next u) = .next (f u) := rfl

/-- A read answers, or is refused with one of two errors; it writes no register but STATUS and ERRADDR and no
memory (R61, R72). -/
theorem hostRead_cases (addr : BusAddr) (s : State) :
    (∃ data, hostRead addr s = answerRead data s) ∨
    (addrTarget s.maxpix addr = none ∧ hostRead addr s = refuseRead .addr addr s) ∨
    (s.busy = true ∧ hostRead addr s = refuseRead .busy addr s) := by
  have hw : ∀ data, (∃ d, windowRead addr data s = answerRead d s) ∨
      (s.busy = true ∧ windowRead addr data s = refuseRead .busy addr s) := by
    intro data
    unfold windowRead
    cases s.busy with
    | true => exact .inr ⟨rfl, rfl⟩
    | false => exact .inl ⟨data, rfl⟩
  unfold hostRead
  split
  · exact .inr (.inl ⟨by assumption, rfl⟩)
  · exact .inl ⟨_, rfl⟩
  all_goals exact (hw _).elim .inl fun h => .inr (.inr h)

/-- A locked write is refused while BUSY and done when idle (R70). -/
theorem lockedWrite_cases (addr : BusAddr) (u s : State) :
    (s.busy = true ∧ lockedWrite addr u s = refuseWrite .busy addr s) ∨
    (s.busy = false ∧ lockedWrite addr u s = answerWrite u) := by
  unfold lockedWrite
  cases s.busy <;> simp

/-- Every command's meaning answers a next state. -/
theorem exec_next (i : Instr) (s : State) : ∃ t, exec i s = .next t := by
  cases i <;> exact ⟨_, rfl⟩

/-- Every word written to CMD is answered with a next state (R66). -/
theorem command_next (w : Word) (s : State) : ∃ t, command w s = .next t := by
  unfold command
  split
  · exact exec_next _ _
  · exact ⟨_, rfl⟩

/-- Every register write is answered with a next state (R66). -/
theorem regWrite_next (r : Reg) (addr : BusAddr) (data : Word) (s : State) :
    ∃ t, regWrite r addr data s = .next t := by
  obtain ⟨u, hu⟩ := command_next data s
  cases r <;> first | exact ⟨_, rfl⟩ | exact ⟨_, by simp only [regWrite, hu]; rfl⟩

/-- Every write transaction is answered with a next state (R62). -/
theorem hostWrite_next (addr : BusAddr) (data : Word) (s : State) : ∃ t, hostWrite addr data s = .next t := by
  unfold hostWrite
  split
  · exact ⟨_, rfl⟩
  · exact regWrite_next _ _ _ _
  all_goals exact ⟨_, rfl⟩

/-- What a step is, by the first pending event (R12). -/
theorem step_nil (h : s.pending = []) : step s = engineStep s := by simp [step, h]

theorem step_cons {e : Event} {rest : List Event} (h : s.pending = e :: rest) :
    step s = runEvent e { s with pending := rest } := by simp [step, h]

/-- The register's address names the register (R38, R63). -/
theorem addrTarget_regAddr (maxpix : Nat) (r : Reg) : addrTarget maxpix (regAddr r) = some (.reg r) := by
  cases r <;> rfl

end Sys2Proof.Machine
end

