-- ==== Sys2Proof/Laws/Encoding.lean ====
section
/-! SUPPORT. The fields of a command word and of a bus address, for proofs to cite. -/

namespace Sys2Proof

/-- A word is its four fields (R91). -/
theorem joinFields_splitWord (w : Word) : joinFields (splitWord w) = w := by
  apply BitVec.eq_of_getLsbD_eq
  intro i hi
  simp only [joinFields, splitWord, BitVec.getLsbD_append, BitVec.getLsbD_ofBool, BitVec.getLsbD_extractLsb']
  rcases Nat.lt_or_ge i 1 with h | h
  · have : i = 0 := by omega
    subst this; simp
  rcases Nat.lt_or_ge i 2 with h2 | h2
  · have : i = 1 := by omega
    subst this; simp
  have e1 : ¬ i < 1 := by omega
  have e2 : ¬ i - 1 < 1 := by omega
  rcases Nat.lt_or_ge i 24 with h3 | h3
  · have e3 : i - 1 - 1 < 22 := by omega
    have e4 : 2 + (i - 1 - 1) = i := by omega
    simp [e1, e2, e3, e4]
  · have e3 : ¬ i - 1 - 1 < 22 := by omega
    have e4 : 24 + (i - 1 - 1 - 22) = i := by omega
    have e5 : i - 1 - 1 - 22 < 8 := by omega
    simp [e1, e2, e3, e4, e5]

namespace Machine

/-- The fields of a bus address as numbers (R63). -/
theorem busAddr_fields (addr : BusAddr) :
    (addr.extractLsb' 0 2).toNat = addr.toNat % 4 ∧ (addr.extractLsb' 2 22).toNat = addr.toNat % 2 ^ 24 / 4 ∧
    (addr.extractLsb' 24 4).toNat = addr.toNat / 2 ^ 24 ∧ (addr.extractLsb' 0 24).toNat = addr.toNat % 2 ^ 24 := by
  have := addr.isLt
  refine ⟨?_, ?_, ?_, ?_⟩ <;> simp [BitVec.extractLsb'_toNat, Nat.shiftRight_eq_div_pow] <;> omega

/-- The alignment test of an address (R64). -/
theorem busAddr_aligned_iff (addr : BusAddr) : addr.extractLsb' 0 2 = 0#2 ↔ addr.toNat % 4 = 0 := by
  rw [← (busAddr_fields addr).1, ← BitVec.toNat_inj]; rfl

end Machine
end Sys2Proof
end

