-- ==== Sys2Proof/Laws/PerInstr.lean ====
section
/-! SUPPORT. The statements about every command, one lemma for each constructor: `RoundTrip`. -/

namespace Sys2Proof.Laws

/-- The command is well formed, its word's fields are its own, and its word decodes to it (R93, R95). -/
def RoundTrip.Statement (i : Instr) : Prop :=
  i.wf = true ∧ splitWord (encode i) = i.fields ∧ decode (encode i) = .ok i

theorem RoundTrip.nop : RoundTrip.Statement .nop := ⟨rfl, rfl, rfl⟩
theorem RoundTrip.ditherOrd : RoundTrip.Statement .ditherOrd := ⟨rfl, rfl, rfl⟩
theorem RoundTrip.ditherExt : RoundTrip.Statement .ditherExt := ⟨rfl, rfl, rfl⟩
theorem RoundTrip.packDir : RoundTrip.Statement .packDir := ⟨rfl, rfl, rfl⟩
theorem RoundTrip.packInv : RoundTrip.Statement .packInv := ⟨rfl, rfl, rfl⟩
theorem RoundTrip.runOrdDir : RoundTrip.Statement .runOrdDir := ⟨rfl, rfl, rfl⟩
theorem RoundTrip.runExtDir : RoundTrip.Statement .runExtDir := ⟨rfl, rfl, rfl⟩
theorem RoundTrip.runOrdInv : RoundTrip.Statement .runOrdInv := ⟨rfl, rfl, rfl⟩
theorem RoundTrip.runExtInv : RoundTrip.Statement .runExtInv := ⟨rfl, rfl, rfl⟩
theorem RoundTrip.srst : RoundTrip.Statement .srst := ⟨rfl, rfl, rfl⟩

end Sys2Proof.Laws
end

