-- ==== Sys2Proof/Tests/Slice0.lean ====
section
/-! SUPPORT. The model's own tests. Every expected value is the spec's (the source is named at each test), and each
test runs at most one step. At the end, for each statement with hypotheses, a concrete state and operands that meet
all of them. -/

namespace Sys2Proof.Tests

open Sys2Proof.Machine

/-! ### Helpers -/

/-- After reset, with the dimensions written. -/
def frame (w h : Nat) : State :=
  { State.reset with width := BitVec.ofNat 32 w, height := BitVec.ofNat 32 h }

/-- The state after one outcome, or reset where it stopped. -/
def after (o : Host.Outcome State Fault Refusal) : State :=
  match o with
  | .next s => s
  | .fault _ => State.reset
  | .refused _ => State.reset

/-- The outcome is a next state. -/
def goesOn (o : Host.Outcome State Fault Refusal) : Bool :=
  match o with
  | .next _ => true
  | .fault _ => false
  | .refused _ => false

/-- The command a word decodes to. -/
def decoded (w : Word) : Option Instr := (decode w).toOption

/-- A running command on a w x h frame, at the start of a phase. -/
def running (i : Instr) (p : Phase) (w h : Nat) : State := ((frame w h).begin (encode i)).setPhase p

/-- A list of values as a memory, from index 0. -/
def memory {n : Nat} (l : List Int) : Memory n := l.mapIdx fun i v => (i, BitVec.ofInt n v)

/-! ### Well-formedness: an ill-formed term for each check (R91, R97) -/

theorem test_wf_zero_field : CommandFields.zeroOk ⟨0x03#8, 1#22, false, false⟩ = false := by decide
theorem test_wf_opcode : CommandFields.opcodeOk ⟨0x04#8, 0#22, false, false⟩ = false := by decide
theorem test_wf_polarity : CommandFields.polarityOk ⟨0x01#8, 0#22, true, false⟩ = false := by decide
theorem test_wf_method : CommandFields.methodOk ⟨0x02#8, 0#22, false, true⟩ = false := by decide
theorem test_wf_refuses_each :
    CommandFields.wf ⟨0x03#8, 1#22, false, false⟩ = false ∧ CommandFields.wf ⟨0x04#8, 0#22, false, false⟩ = false ∧
    CommandFields.wf ⟨0x01#8, 0#22, true, false⟩ = false ∧ CommandFields.wf ⟨0x02#8, 0#22, false, true⟩ = false := by
  decide

/-! ### Decoding: every command's word, bit by bit as the opcode map gives it (R91, R93) -/

theorem test_decode_nop : decoded 0b00000000000000000000000000000000#32 = some .nop := by decide
theorem test_decode_ditherOrd : decoded 0b00000001000000000000000000000000#32 = some .ditherOrd := by decide
theorem test_decode_ditherExt : decoded 0b00000001000000000000000000000001#32 = some .ditherExt := by decide
theorem test_decode_packDir : decoded 0b00000010000000000000000000000000#32 = some .packDir := by decide
theorem test_decode_packInv : decoded 0b00000010000000000000000000000010#32 = some .packInv := by decide
theorem test_decode_runOrdDir : decoded 0b00000011000000000000000000000000#32 = some .runOrdDir := by decide
theorem test_decode_runExtDir : decoded 0b00000011000000000000000000000001#32 = some .runExtDir := by decide
theorem test_decode_runOrdInv : decoded 0b00000011000000000000000000000010#32 = some .runOrdInv := by decide
theorem test_decode_runExtInv : decoded 0b00000011000000000000000000000011#32 = some .runExtInv := by decide
theorem test_decode_srst : decoded 0b10000000000000000000000000000000#32 = some .srst := by decide

/-- The illegal words of spec/95_test_vectors.md V51. -/
theorem test_decode_illegal : [0x00000001#32, 0x00000002#32, 0x01000002#32, 0x01000003#32, 0x02000001#32,
    0x02000003#32, 0x03000004#32, 0x03800000#32, 0x04000000#32, 0x80000001#32, 0x80000004#32, 0xFF000000#32,
    0xFFFFFFFF#32, 0x12345678#32].all (fun w => (decoded w).isNone) = true := by decide

theorem test_encode_runExtInv : encode .runExtInv = 0x03000003#32 := by decide
theorem test_table_word : decodeTableWord 32 0x02000002 = some .packInv := by decide
theorem test_table_word_runs :
    (after (step (State.reset.withFetchWord 32 0x00000000))).status = 0x00000002#32 := by decide

/-! ### Primitive functions and tables (V20, V21, V40, V41) -/

theorem test_tdiv_toward_zero : tdiv (-7) 16 = 0 ∧ tdiv (-17) 16 = -1 ∧ tdiv (-19880) 16 = -1242 := by decide
theorem test_ceil8 : ceil8 8 = 1 ∧ ceil8 9 = 2 ∧ ceil8 17 = 3 := by decide
theorem test_lin_samples : lin 10 = 198 ∧ lin 128 = 14091 ∧ lin 149 = 19619 ∧ lin 254 = 64699 := by decide +kernel
theorem test_lin_sum : linTable.sum = 5197558 := by decide +kernel
theorem test_threshold_sum : thresholdTable.sum = 5164977 := by decide +kernel
theorem test_srgb_samples : srgb 9 = 0 ∧ srgb 10 = 1 ∧ srgb 32633 = 187 ∧ srgb 64990 = 255 := by decide +kernel

/-! ### The commands -/

/-- R177: the worked example. -/
theorem test_nop_after_reset : (after (exec .nop State.reset)).status = 0x00000002#32 := by decide
/-- R177, R223: refused while busy. -/
theorem test_nop_while_busy : (after (exec .nop (running .runOrdDir .seed 8 1))).status = 0x00000405#32 := by decide

/-- V52: 256 x 256 is accepted, 257 x 256 is not, at MAXPIX = 65536. -/
theorem test_ditherOrd_capacity : (after (exec .ditherOrd (frame 256 256))).status = 0x00000005#32 ∧
    (after (exec .ditherOrd (frame 257 256))).status = 0x00000100#32 := by decide
/-- P5, step 3: the visit of (0, 0) with v = 2304 deposits 1008 to the right and decides 0. -/
theorem test_ditherOrd_visit :
    let t := after (engineStep { running .ditherOrd .diffuse 2 1 with wbuf := memory [2304, 31744] })
    t.wbuf = memory [2304, 32752] ∧ t.bmem = memory [0] ∧ t.curx = 1#32 := by decide

/-- V9: the seed of code 188 is 32828. -/
theorem test_ditherExt_seed :
    (after (engineStep { running .ditherExt .seed 1 1 with imem := memory [188] })).wbuf = memory [32828] := by
  decide +kernel
/-- V12: the visit of (1, 0) adds 3724 to the six cells and to no other. -/
theorem test_ditherExt_visit :
    (after (engineStep { running .ditherExt .diffuse 4 3 with
      curx := 1#32, wbuf := memory [0, 29795, 0, 0, 0, 0, 0, 0, 0, 0, 0, 0] })).wbuf =
      memory [0, 29795, 3724, 3724, 3724, 3724, 3724, 0, 0, 3724, 0, 0] := by decide

/-- V31: the second byte of ten ones is 0xC0. -/
theorem test_packDir_padding :
    (after (engineStep { running .packDir .pack 10 1 with
      curx := 1#32, bmem := memory (List.replicate 10 1) })).pmem = [(1, 0xC0#8)] := by decide
/-- R163, P2: acceptance sets STRIDE and PLEN and starts in PACK. -/
theorem test_packDir_accept :
    let t := after (exec .packDir (frame 10 1))
    t.status = 0x0000000D#32 ∧ t.stride = 2#32 ∧ t.plen = 2#32 := by decide

/-- V32: padding is not inverted. -/
theorem test_packInv_padding :
    (after (engineStep { running .packInv .pack 10 1 with
      curx := 1#32, bmem := memory (List.replicate 10 0) })).pmem = [(1, 0xC0#8)] := by decide
/-- V30. -/
theorem test_packInv_byte :
    (after (engineStep { running .packInv .pack 8 1 with
      bmem := memory [0, 0, 0, 0, 1, 1, 1, 1] })).pmem = [(0, 0xF0#8)] := by decide

/-- P1: the state just after the write to CMD. -/
theorem test_runOrdDir_accept :
    let t := after (exec .runOrdDir (frame 8 1))
    t.status = 0x00000005#32 ∧ t.actcmd = 0x03000000#32 ∧ t.stride = 1#32 ∧ t.plen = 1#32 := by decide
/-- P3: V10's frame. -/
theorem test_runExtDir_accept :
    let t := after (exec .runExtDir (frame 4 3))
    t.actcmd = 0x03000001#32 ∧ t.stride = 1#32 ∧ t.plen = 3#32 := by decide
/-- P5, step 4: the last visit ends the phase, and the command goes on to PACK. -/
theorem test_runOrdInv_phase_end :
    let t := after (engineStep { running .runOrdInv .diffuse 2 1 with
      curx := 1#32, wbuf := memory [2304, 32752], bmem := memory [0] })
    t.status = 0x0000000D#32 ∧ t.curx = 0#32 ∧ t.bmem = memory [0, 1] := by decide
/-- P5, step 5: the byte is 0x80 and the command completes. -/
theorem test_runOrdInv_completes :
    let t := after (engineStep { running .runOrdInv .pack 2 1 with bmem := memory [0, 1] })
    t.status = 0x00000002#32 ∧ t.pmem = [(0, 0x80#8)] ∧ t.actcmd = 0x03000002#32 := by decide
/-- R186: the last byte of V11's matrix, inverted. -/
theorem test_runExtInv_byte :
    (after (engineStep { running .runExtInv .pack 3 3 with
      cury := 2#32, bmem := memory [0, 1, 0, 0, 0, 1, 1, 0, 0] })).pmem = [(2, 0x60#8)] := by decide

/-- P6 (a): SRST clears the dimensions and IEN, so irq falls. -/
theorem test_srst_idle :
    let t := after (exec .srst { frame 8 1 with status := 0x2#32, ien := 0x2#32 })
    t.status = 0#32 ∧ t.width = 0#32 ∧ t.irq = false := by decide
/-- P6 (c): accepted while busy; IMEM stays. -/
theorem test_srst_busy :
    let t := after (exec .srst { running .runOrdDir .seed 4 2 with imem := memory [128] })
    t.busy = false ∧ t.done = false ∧ t.imem = memory [128] := by decide

/-! ### The bus -/

/-- V50: the clamp of the IMEM window. -/
theorem test_imem_clamp : [0x000000F5#32, 0x0000017F#32, 0x00000100#32, 0xFFFFFFFF#32, 0x80000000#32,
    0x7FFFFFFF#32].map clampCode = [245#8, 255#8, 255#8, 0#8, 0#8, 255#8] := by decide
/-- V54: the address decode at MAXPIX = 65536. -/
theorem test_address_decode : [0x0000040#28, 0x0000044#28, 0x0000009#28, 0x103FFFC#28, 0x1040000#28, 0x400FFFC#28,
    0x4010000#28, 0x5000000#28, 0x1000002#28].map (addrTarget 65536) =
    [some (.reg .actcmd), none, none, some (.imem 65535), none, some (.pmem 16383), none, none, none] := by decide
/-- V54: a refused read. -/
theorem test_refused_read : (hostRead 0x0000044#28 State.reset).erraddr = 0x00000044#32 ∧
    (hostRead 0x0000044#28 State.reset).reply = some (.read .err 0#32) := by decide
/-- P3: a cell is read sign-extended, PMEM little-endian (P7: 0x60C0A0 in bits 23:0). -/
theorem test_window_reads :
    (hostRead 0x3000000#28 { State.reset with wbuf := memory [-196] }).reply = some (.read .ok 0xFFFFFF3C#32) ∧
    (hostRead 0x4000000#28 { State.reset with pmem := memory [0xA0, 0xC0, 0x60, 0] }).reply =
      some (.read .ok 0x0060C0A0#32) := by decide
/-- V42: the lookup port. -/
theorem test_lookup_port : ({ State.reset with cscin := 0x0000012C#32 }).cscsrgb = 15#32 ∧
    ({ State.reset with cscin := 0xFFFFFFFF#32 }).csclin = 0#32 ∧
    ({ State.reset with cscin := 0x0000370B#32 }).csclin = 65280#32 := by decide +kernel
/-- P4: irq after IEN is opened over STATUS = 0xB00, and after CLRSTAT. -/
theorem test_irq : ({ State.reset with status := 0xB00#32, ien := 0xF02#32 }).irq = true ∧
    (State.acknowledge 0xF02#32 { State.reset with status := 0xB00#32, ien := 0xF02#32 }).irq = false := by decide
/-- P4: a word both illegal and written while busy reports busy only. -/
theorem test_illegal_while_busy :
    (after (command 0x12345678#32 (running .runOrdInv .seed 2 1))).status = 0x00000405#32 := by decide
/-- P1: LOADIMG and SETDIM as transactions. -/
theorem test_program_events : programEvents [.setDim 8#32 1#32, .loadImg [10#32, 245#32]] =
    [.hostWrite 0x0000010#28 8#32, .hostWrite 0x0000014#28 1#32, .hostWrite 0x1000000#28 10#32,
      .hostWrite 0x1000004#28 245#32] := by decide

/-! ### Witnesses: the hypotheses of each statement hold together somewhere -/

theorem witness_WordIsIllegal : decode 0x03000004#32 = .error .zeroField := rfl

theorem witness_StepRunsTheWrittenCommand : decode 0x02000002#32 = .ok .packInv ∧
    { State.reset with pending := [.hostWrite (regAddr .cmd) 0x02000002#32] }.pending =
      .hostWrite (regAddr .cmd) 0x02000002#32 :: [] := ⟨rfl, rfl⟩

theorem witness_EngineStepsWhenNoTransactionDoes : State.reset.busy = false ∧
    (running .packDir .pack 1 1).pending = [] ∧
    { State.reset with pending := [.engineTurn] }.pending = [.engineTurn] := by decide

theorem witness_NopSetsDone : State.reset.busy = false ∧ (running .packDir .pack 1 1).busy = true := by decide

/-- Acceptance at both ends: a 1 x 1 frame and a frame of exactly MAXPIX pixels. -/
theorem witness_Acceptance_legal : Instr.ditherOrd ∈ stagedInstrs ∧ (frame 256 256).busy = false ∧
    0 < (frame 256 256).width.toInt ∧ 0 < (frame 256 256).height.toInt ∧
    (frame 256 256).width.toInt * (frame 256 256).height.toInt ≤ (frame 256 256).maxpix ∧
    0 < (frame 1 1).width.toInt ∧ 0 < (frame 1 1).height.toInt ∧
    (frame 1 1).width.toInt * (frame 1 1).height.toInt ≤ (frame 1 1).maxpix := by decide

/-- The refusal at the boundary of each of its three grounds. -/
theorem witness_Acceptance_refused : Instr.runExtInv ∈ stagedInstrs ∧ (frame 0 5).busy = false ∧
    (frame 0 5).width.toInt ≤ 0 ∧ (frame 5 0).height.toInt ≤ 0 ∧
    ((frame 65537 1).maxpix : Int) < (frame 65537 1).width.toInt * (frame 65537 1).height.toInt := by decide

theorem witness_BusyBlockRefuses : (running .packDir .pack 1 1).busy = true ∧ 0x12345678#32 ≠ 0x80000000#32 := by
  decide

theorem witness_RaisingAnError :
    goesOn (engineStep { running .packDir .pack 1 1 with bmem := memory [1] }) = true := by decide

/-- An illegal frame, a legal one, and the write that raises the flag. -/
theorem witness_DimErrorComesFromStagedCommandsOnly : Instr.packInv ∈ stagedInstrs ∧ (frame 0 1).busy = false ∧
    (frame 0 1).width.toInt ≤ 0 ∧ ¬ ((frame 256 256).width.toInt ≤ 0 ∨ (frame 256 256).height.toInt ≤ 0 ∨
      (frame 256 256).maxpix < (frame 256 256).width.toInt * (frame 256 256).height.toInt) ∧
    goesOn (runEvent (.hostWrite (regAddr .cmd) (encode .packInv)) (frame 0 1)) = true ∧
    (frame 0 1).errFlag .dim = false ∧
    (after (runEvent (.hostWrite (regAddr .cmd) (encode .packInv)) (frame 0 1))).errFlag .dim = true := by decide

theorem witness_IllegalWordWhileIdle : decode 0x04000000#32 = .error .opcode ∧ State.reset.busy = false := by
  exact ⟨rfl, by decide⟩

/-- One address on each side of each boundary, at MAXPIX = 65536. -/
theorem witness_AddrError :
    (0x0000009#28).toNat % 4 ≠ 0 ∧ 5 ≤ (0x5000000#28).toNat / 2 ^ 24 ∧ 0x40 < (0x0000044#28).toNat % 2 ^ 24 ∧
    State.reset.maxpix ≤ (0x1040000#28).toNat % 2 ^ 24 / 4 ∧ State.reset.maxpix / 4 ≤ (0x4010000#28).toNat % 2 ^ 24 / 4 ∧
    ¬ (0x40 < (0x0000040#28).toNat % 2 ^ 24) ∧ ¬ (State.reset.maxpix ≤ (0x103FFFC#28).toNat % 2 ^ 24 / 4) ∧
    State.reset.errFlag .addr = false := by decide

theorem witness_OneTransaction : State.reset.errFlag .addr = false ∧
    (hostRead 0x0000044#28 State.reset).errFlag .addr = true := by decide

/-- The last element, also for the WBUF window and the address map. -/
theorem witness_ImemAndBmemWindows : 65535 < State.reset.maxpix ∧ State.reset.busy = false ∧
    (0xFFFFFFFF#32).toInt < 0 ∧ 255 < (0x00000100#32).toInt ∧ 0 ≤ (255#32).toInt ∧ (255#32).toInt ≤ 255 ∧
    0 ≤ (0#32).toInt := by decide

theorem witness_PmemWindow : 16383 < State.reset.maxpix / 4 ∧ State.reset.busy = false := by decide

theorem witness_Lock : (running .packDir .pack 1 1).busy = true ∧ 65535 < (running .packDir .pack 1 1).maxpix ∧
    16383 < (running .packDir .pack 1 1).maxpix / 4 ∧ 0x103FFFC#28 = imemAddr 65535 ∧
    0x400FFFC#28 = pmemAddr 16383 := by decide

theorem witness_HostStatements : ([10#32, 245#32] : List Word)[1]? = some 245#32 := by decide

theorem witness_LinIsTheRoundedRealFunction :
    (128 : Nat) < 256 ∧ ∃ y : ℝ, IsToLinear (((128 : Nat) : ℝ) / 255) y := ⟨by decide, _, rfl⟩

theorem witness_SrgbIsTheRoundedRealFunction :
    (65280 : Nat) ≤ 65280 ∧ ∃ y : ℝ, IsToSrgb (((65280 : Nat) : ℝ) / 65280) y := ⟨by decide, _, rfl⟩

theorem witness_LinTable : (254 : Nat) < 255 ∧ (0 : Nat) < 256 := by decide

theorem witness_SrgbInvertsLin : (9 : Nat) ≤ 10 ∧ (255 : Nat) < 256 := by decide

theorem witness_DepositedTotal : (0 : Int) ≤ 16 ∧ (-16 : Int) ≤ 0 ∧ (16 : Int) ∣ 16 ∧ (8 : Int) ∣ 16 ∧
    (16 : Int) = tdiv (7 * 16) 16 + tdiv (3 * 16) 16 + tdiv (5 * 16) 16 + tdiv 16 16 := by decide

theorem witness_SrgbReachesCode : (1 : Nat) ≤ 255 ∧ threshold 255 ≤ 64990 := by decide +kernel

/-- Each of the three clauses of the cursor's statement. -/
theorem witness_EngineStepAdvances :
    goesOn (engineStep (running .packDir .pack 9 2)) = true ∧
    (running .packDir .pack 9 2).x + 1 < (running .packDir .pack 9 2).limit ∧
    (running .packDir .pack 8 2).x + 1 = (running .packDir .pack 8 2).limit ∧
    (running .packDir .pack 8 2).y + 1 < (running .packDir .pack 8 2).rows ∧
    (running .packDir .pack 8 1).x + 1 = (running .packDir .pack 8 1).limit ∧
    (running .packDir .pack 8 1).y + 1 = (running .packDir .pack 8 1).rows := by decide

theorem witness_SeedStep : (running .ditherExt .seed 1 1).busy = true ∧
    (running .ditherExt .seed 1 1).engineReady = true ∧ (running .ditherExt .seed 1 1).phase = .seed := by decide

/-- The ends of the range: a cell at -HALF and one at ONE + HALF. -/
theorem witness_OrdVisit :
    let s := { running .ditherOrd .diffuse 2 1 with wbuf := memory [-32640, 97920] }
    s.busy = true ∧ s.engineReady = true ∧ s.phase = .diffuse ∧ s.method = .ord ∧ s.cellsInRange := by
  unfold State.cellsInRange; decide

theorem witness_ExtVisit :
    let s := { running .ditherExt .diffuse 1 2 with wbuf := memory [97920, -32640] }
    s.busy = true ∧ s.engineReady = true ∧ s.phase = .diffuse ∧ s.method = .ext ∧ s.cellsInRange := by
  unfold State.cellsInRange; decide

theorem witness_PackStep : (running .packInv .pack 9 1).busy = true ∧
    (running .packInv .pack 9 1).engineReady = true ∧ (running .packInv .pack 9 1).phase = .pack := by decide

theorem witness_Tdiv : (0 : Int) < 16 := by decide

/-- For the completion, the RUN and the gather statements. -/
theorem witness_WholeCommand : (frame 256 256).busy = false ∧ (frame 256 256).frameLegal = true ∧
    (frame 1 1).frameLegal = true ∧ stagedInstrs.all (fun i => i ∈ stagedInstrs) = true := by decide

/-- Acceptance, then one engine step: DIFFUSE is reached on a 1 x 1 frame. -/
theorem witness_DitherStage : (frame 1 1).busy = false ∧ (frame 1 1).frameLegal = true ∧
    hasDither (encode .ditherOrd) = true ∧ goesOn (exec .ditherOrd (frame 1 1)) = true ∧
    goesOn (engineRun 0 (after (exec .ditherOrd (frame 1 1)))) = true ∧
    (after (exec .ditherOrd (frame 1 1))).phase = .seed ∧
    (after (engineRun 1 (after (exec .ditherOrd { frame 1 1 with imem := memory [128] })))).phase = .diffuse := by
  decide

theorem witness_PackCommand : (Instr.packInv = Instr.packInv ∧ Polarity.inv = Polarity.inv) ∧
    (frame 10 1).busy = false ∧ (frame 10 1).frameLegal = true := by decide

/-- Two states with the same frame and bits and different capacities. -/
theorem witness_ResultDependsOnItsInputs :
    let a := { frame 1 1 with bmem := memory [1] }
    let b := { frame 1 1 with bmem := memory [1], capQuads := 0, cscin := 7#32 }
    Instr.packDir ∈ stagedInstrs ∧ a.busy = false ∧ b.busy = false ∧ a.frameLegal = true ∧ b.frameLegal = true ∧
    a.width = b.width ∧ a.height = b.height ∧ hasDither (encode .packDir) = false ∧
    (∀ j, j < a.cols * a.rows → a.bmemAt j = b.bmemAt j) ∧ commandSteps (encode .packDir) a = 1 ∧
    goesOn (engineRun 1 (after (exec .packDir a))) = true ∧
    goesOn (engineRun 1 (after (exec .packDir b))) = true := by decide

/-- The same for a dither stage, with the same codes. -/
theorem witness_ResultDependsOnItsInputs_dither :
    let a := { frame 1 1 with imem := memory [128] }
    let b := { frame 1 1 with imem := memory [128], capQuads := 0, bmem := memory [1] }
    Instr.ditherOrd ∈ stagedInstrs ∧ a.frameLegal = true ∧ b.frameLegal = true ∧ hasDither (encode .ditherOrd) = true ∧
    (∀ j, j < a.cols * a.rows → a.imemAt j = b.imemAt j) ∧ commandSteps (encode .ditherOrd) a = 2 ∧
    goesOn (engineRun 2 (after (exec .ditherOrd a))) = true ∧
    goesOn (engineRun 2 (after (exec .ditherOrd b))) = true := by decide

theorem witness_HostCannotDisturb : (running .packDir .pack 9 1).busy = true ∧
    hostQuiet (.hostWrite (regAddr .cmd) (encode .nop)) = true := by decide

/-- A read, an engine turn and a refused write, after which the command still runs. -/
theorem witness_Interleaving :
    let s := { running .packDir .pack 9 1 with bmem := memory (List.replicate 9 1) }
    let l : List Event := [.hostRead 0x1000000#28, .engineTurn, .hostWrite 0x0000010#28 5#32]
    s.busy = true ∧ (∀ e ∈ l, quietOrTurn e = true) ∧ l.count .engineTurn = 1 ∧
    (after (engineRun 1 s)).busy = true := by decide

/-- The same with a list whose last event is the turn that completes the command. -/
theorem witness_Interleaving_completes :
    let s := { running .packDir .pack 9 1 with bmem := memory (List.replicate 9 1) }
    let l : List Event := [.hostRead 0x1000000#28, .engineTurn]
    s.busy = true ∧ (∀ e ∈ l ++ [Event.engineTurn], quietOrTurn e = true) ∧
    (l ++ [Event.engineTurn]).count Event.engineTurn = 2 ∧ l.count Event.engineTurn = 1 ∧ goesOn (engineRun 2 s) = true ∧ (after (engineRun 2 s)).busy = false ∧
    goesOn (engineRun 1 s) = true ∧ (after (engineRun 1 s)).busy = true := by decide

theorem witness_WaitEnds : (frame 1 1).busy = false ∧ (frame 1 1).frameLegal = true ∧
    Instr.packDir ∈ stagedInstrs ∧ goesOn (exec .packDir (frame 1 1)) = true := by decide

/-- For the invariant and for the capacity. -/
theorem witness_Invariant :
    let s := { (frame 2 1).begin (encode .ditherOrd) with imem := memory [9, 124] }
    s.inv = true ∧ goesOn (step s) = true ∧ (step s |> after).inv = true := by decide

end Sys2Proof.Tests
end

/-! ## The scope's statements: truncation, and when the engine steps -/

namespace Sys2Proof.Machine

/-- The remainder of `tdiv` is smaller than the divisor and has the dividend's sign (R8). -/
theorem tdiv_remainder (a : Int) {n : Int} (hn : 0 < n) :
    |a - n * tdiv a n| < n ∧ (0 ≤ a → 0 ≤ a - n * tdiv a n) ∧ (a ≤ 0 → a - n * tdiv a n ≤ 0) := by
  have hr : a - n * tdiv a n = Int.tmod a n := by rw [tdiv_eq_int_tdiv, Int.tmod_def]
  rw [hr]
  refine ⟨?_, fun h => Int.tmod_nonneg n h, fun h => ?_⟩
  · have h1 := Int.tmod_lt_of_pos a hn
    have h2 := Int.lt_tmod_of_pos a hn
    rw [abs_lt]; omega
  · have h1 := Int.tmod_nonneg n (show 0 ≤ -a by omega)
    rw [Int.neg_tmod] at h1; omega

/-- Settles O38: the remainder is the library's `tmod`. -/
theorem tdivTruncatesTowardZero : Obligations.TdivTruncatesTowardZero := by
  intro a n hn
  obtain ⟨hlt, hpos, hneg⟩ := tdiv_remainder a hn
  exact ⟨a - n * tdiv a n, by ring, hlt, hpos, hneg⟩

/-- Settles O5: the three clauses are the model's laws of an idle engine and of a step by its first event. -/
theorem engineStepsWhenNoTransactionDoes : Obligations.EngineStepsWhenNoTransactionDoes := by
  intro s
  exact ⟨engineStep_idle, step_nil, fun rest h => step_cons h⟩

end Sys2Proof.Machine

/-! ## What one transaction can do (spec/20_memory.md R61 to R70, spec/43_control.md R175) -/

namespace Sys2Proof

/-- A word that decodes to a command has that command's fields (R95). -/
theorem splitWord_of_decode {w : Word} {i : Instr} (h : decode w = .ok i) : splitWord w = i.fields := by
  by_cases hw : w = 0x80000000#32
  · subst hw
    obtain rfl : Instr.srst = i := Except.ok.inj h
    rfl
  · rcases hf : splitWord w with ⟨op, zero, p, m⟩
    simp only [decode, hf, if_neg hw] at h
    have hmk : ∀ {o : BitVec 8} {p m : Bool}, op = o → ¬ zero ≠ 0#22 →
        (⟨op, zero, p, m⟩ : CommandFields) = ⟨o, 0#22, p, m⟩ := by
      rintro o p m rfl hz; rw [not_not.mp hz]
    cases p <;> cases m <;> simp only [Bool.false_eq_true, if_true, if_false] at h <;>
      split_ifs at h <;> cases h <;> exact hmk ‹_› ‹_›

/-- The only word that decodes to a command is the command's own (R93). -/
theorem eq_encode_of_decode {w : Word} {i : Instr} (h : decode w = .ok i) : w = encode i := by
  rw [encode, ← splitWord_of_decode h, joinFields_splitWord]

end Sys2Proof

namespace Sys2Proof.Machine

variable {s t : State}

/-- The address of a register is the only one that names it (R63). -/
theorem eq_regAddr_of_addrTarget {m : Nat} {addr : BusAddr} {r : Reg}
    (h : addrTarget m addr = some (.reg r)) : addr = regAddr r := by
  have regAt_div : ∀ {off : Nat}, regAt off = some r → off / 4 = (regAddr r).toNat / 4 := by
    intro off hoff
    unfold regAt at hoff
    split at hoff <;> cases hoff <;> assumption
  have haligned : (regAddr r).toNat % 4 = 0 := by cases r <;> rfl
  obtain ⟨-, -, hregion, hoffset⟩ := busAddr_fields addr
  unfold addrTarget at h
  split at h
  · cases h
  · rename_i hal
    have hal := (busAddr_aligned_iff addr).mp (not_not.mp hal)
    simp only at h
    split at h
    · rename_i hzero
      obtain ⟨r', hr', hrr⟩ := Option.map_eq_some_iff.mp h
      obtain rfl : r' = r := Target.reg.inj hrr
      have hdiv := regAt_div hr'
      apply BitVec.eq_of_toNat_eq
      omega
    all_goals simp at h

/-- Everything a command can do in the transaction that writes its word (R175 to R179). -/
theorem exec_cases {i : Instr} (h : exec i s = .next t) :
    (∃ k, t = s.raise k (.command (encode i))) ∨
    (i = .nop ∧ s.busy = false ∧ t = (s.setActcmd (encode i)).setDone true) ∨
    (i ∈ stagedInstrs ∧ s.busy = false ∧ s.frameLegal = true ∧ t = s.begin (encode i)) ∨
    (i = .srst ∧ t = s.clearRegisters) := by
  have hstart : i ∈ stagedInstrs → t = startCommand (encode i) s →
      (∃ k, t = s.raise k (.command (encode i))) ∨
      (i ∈ stagedInstrs ∧ s.busy = false ∧ s.frameLegal = true ∧ t = s.begin (encode i)) := by
    rintro hi rfl
    rcases startCommand_cases s (encode i) with ⟨-, h⟩ | ⟨-, -, h⟩ | ⟨hb, hl, h⟩
    · exact .inl ⟨_, h⟩
    · exact .inl ⟨_, h⟩
    · exact .inr ⟨hi, hb, hl, h⟩
  cases i <;> cases h
  case nop =>
    cases hb : s.busy
    · exact .inr (.inl ⟨rfl, rfl, by simp⟩)
    · exact .inl ⟨.busy, by simp⟩
  case srst => exact .inr (.inr (.inr ⟨rfl, rfl⟩))
  all_goals exact (hstart (by decide) rfl).imp_right fun h => .inr (.inl h)

/-- A command with a stage, idle and on a legal frame, is accepted (R176). -/
theorem exec_staged {i : Instr} (hi : i ∈ stagedInstrs) (hb : s.busy = false) (hl : s.frameLegal = true) :
    exec i s = .next (s.begin (encode i)) := by
  have hstart : ∀ w, startCommand w s = s.begin w := fun w => by simp [startCommand, accept, hb, hl]
  cases i
  case nop | srst => exact absurd hi (by decide)
  all_goals exact congrArg Host.Outcome.next (hstart _)

/-- Everything a word written to CMD can do (R175). -/
theorem command_cases {w : Word} (h : command w s = .next t) :
    (∃ k, t = s.raise k (.command w)) ∨
    (s.busy = false ∧ t = (s.setActcmd w).setDone true) ∨
    (s.busy = false ∧ s.frameLegal = true ∧ t = s.begin w) ∨
    (w = encode .srst ∧ t = s.clearRegisters) := by
  unfold command at h
  split at h
  · rename_i i hi
    rw [eq_encode_of_decode hi]
    rcases exec_cases h with hr | ⟨-, hn⟩ | ⟨-, hb⟩ | ⟨rfl, hs⟩
    · exact .inl hr
    · exact .inr (.inl hn)
    · exact .inr (.inr (.inl hb))
    · exact .inr (.inr (.inr ⟨rfl, hs⟩))
  · cases h
    unfold illegalCommand
    split <;> exact .inl ⟨_, rfl⟩

/-- The state with what the host may write only while the block is idle: the dimensions, IMEM and BMEM (R70). -/
def State.withOperands (w h : Word) (im : Memory 8) (bm : Memory 1) (s : State) : State :=
  { s with width := w, height := h, imem := im, bmem := bm }

/-- A locked write of an operand is refused, or done while idle (R70). -/
theorem lockedWrite_withOperands (addr : BusAddr) (w h : Word) (im : Memory 8) (bm : Memory 1) (s : State) :
    (∃ k, lockedWrite addr (s.withOperands w h im bm) s = refuseWrite k addr s) ∨
    (s.busy = false ∧ ∃ w' h' im' bm',
      lockedWrite addr (s.withOperands w h im bm) s = answerWrite (s.withOperands w' h' im' bm')) := by
  rcases lockedWrite_cases addr (s.withOperands w h im bm) s with ⟨-, hr⟩ | ⟨hb, hd⟩
  · exact .inl ⟨_, hr⟩
  · exact .inr ⟨hb, w, h, im, bm, hd⟩

/-- Everything a write transaction can do (R62, R66 to R70): a refusal; a word for CMD; the return from a refusal;
a write that no command minds, the ignored ones included; or, while idle, the write of an operand. -/
theorem hostWrite_cases {addr : BusAddr} {data : Word} (h : hostWrite addr data s = .next t) :
    (∃ k, t = refuseWrite k addr s) ∨
    (addr = regAddr .cmd ∧ ∃ u, command data s = .next u ∧ t = answerWrite u) ∨
    t = answerWrite (s.acknowledge data) ∨
    (∃ ien cscin, t = answerWrite { s with ien := ien, cscin := cscin }) ∨
    (s.busy = false ∧ ∃ w h im bm, t = answerWrite (s.withOperands w h im bm)) := by
  have lift : ∀ {p q a b c : Prop}, p ∨ q → p ∨ a ∨ b ∨ c ∨ q :=
    fun h => h.imp_right (.inr ∘ .inr ∘ .inr)
  unfold hostWrite at h
  split at h
  case h_2 r hr =>
    cases r
    case cmd =>
      obtain ⟨u, hu, rfl⟩ := mapNext_eq_next h
      exact .inr (.inl ⟨eq_regAddr_of_addrTarget hr, u, hu, rfl⟩)
    case status => cases h; exact .inr (.inr (.inl rfl))
    case width => cases h; exact lift (lockedWrite_withOperands addr data _ _ _ s)
    case height => cases h; exact lift (lockedWrite_withOperands addr _ data _ _ s)
    all_goals cases h; exact .inr (.inr (.inr (.inl ⟨_, _, rfl⟩)))
  case h_1 => cases h; exact .inl ⟨_, rfl⟩
  all_goals cases h; exact lift (lockedWrite_withOperands addr _ _ _ _ s)

end Sys2Proof.Machine

/-! ## What a transaction leaves of the engine's view (spec/00_scope.md R13, spec/20_memory.md R70) -/

namespace Sys2Proof.Machine

variable {s t : State}

/-- Setting a bit and then masking: the masked-out bits of the old word do not matter. -/
theorem withBit_and_and (w m : Word) {i : Nat} (b : Bool) (hi : i < 32) :
    withBit (w &&& m) i b &&& m = withBit w i b &&& m := by
  apply word_ext
  intro j _
  rw [BitVec.getLsbD_and, BitVec.getLsbD_and, getLsbD_withBit _ _ _ _ hi, getLsbD_withBit _ _ _ _ hi,
    BitVec.getLsbD_and]
  by_cases hj : j = i
  · simp only [hj, if_true]
  · simp only [hj, if_false, Bool.and_assoc, Bool.and_self]

/-- A flag outside the mask is not seen through it. -/
theorem withBit_and_of_mask {m : Word} {i : Nat} (w : Word) (b : Bool) (hi : i < 32) (hm : m.getLsbD i = false) :
    withBit w i b &&& m = w &&& m := by
  apply word_ext
  intro j _
  rw [BitVec.getLsbD_and, BitVec.getLsbD_and, getLsbD_withBit _ _ _ _ hi]
  by_cases hj : j = i
  · rw [hj, hm, Bool.and_false, Bool.and_false]
  · rw [if_neg hj]

/-- A refusal is outside the engine's view. -/
@[simp] theorem State.engineView_raise (s : State) (k : ErrKind) (info : ErrInfo) :
    (s.raise k info).engineView = s.engineView := by
  have hst : withBit s.status k.code true &&& 0x0000000D#32 = s.status &&& 0x0000000D#32 :=
    withBit_and_of_mask _ _ k.code_lt (by cases k <;> rfl)
  cases info <;> simp only [State.engineView, State.raise, State.setErr, hst]

/-- So is the response of a transaction. -/
@[simp] theorem State.engineView_setReply (s : State) (r : BusReply) :
    (s.setReply r).engineView = s.engineView := rfl

/-- So is the host's return from a refusal: it clears DONE and the error flags only. -/
@[simp] theorem State.engineView_acknowledge (s : State) (d : Word) :
    (s.acknowledge d).engineView = s.engineView := by
  have hst : s.status &&& ~~~(d &&& Config.flagMask) &&& 0x0000000D#32 = s.status &&& 0x0000000D#32 := by
    have hdisjoint : ∀ i, i < 32 → (Config.flagMask.getLsbD i && (0x0000000D#32).getLsbD i) = false := by decide
    apply word_ext
    intro i hi
    have hi' := hdisjoint i hi
    simp only [BitVec.getLsbD_and, BitVec.getLsbD_not, hi, decide_true, Bool.true_and]
    revert hi'
    cases Config.flagMask.getLsbD i <;> simp +contextual
  simp only [State.engineView, State.acknowledge, hst]

/-- A read is never seen by the engine (R61, R72). -/
theorem engineView_hostRead (addr : BusAddr) (s : State) : (hostRead addr s).engineView = s.engineView := by
  rcases hostRead_cases addr s with ⟨data, h⟩ | ⟨-, h⟩ | ⟨-, h⟩ <;> rw [h]
  · rfl
  all_goals simp [refuseRead]

/-- While a command runs only `SRST` gets through CMD (R175, R178). -/
theorem engineView_command {w : Word} (hb : s.busy = true) (hw : w ≠ encode .srst) (h : command w s = .next t) :
    t.engineView = s.engineView := by
  rcases command_cases h with ⟨k, rfl⟩ | ⟨hidle, -⟩ | ⟨hidle, -⟩ | ⟨hsrst, -⟩
  · exact s.engineView_raise _ _
  · exact absurd (hb.symm.trans hidle) (by decide)
  · exact absurd (hb.symm.trans hidle) (by decide)
  · exact absurd hsrst hw

/-- While a command runs no write but that of `SRST` is seen by the engine (R13, R70). -/
theorem engineView_hostWrite {addr : BusAddr} {data : Word} (hb : s.busy = true)
    (hq : hostQuiet (.hostWrite addr data) = true) (h : hostWrite addr data s = .next t) :
    t.engineView = s.engineView := by
  rcases hostWrite_cases h with ⟨k, rfl⟩ | ⟨haddr, u, hu, rfl⟩ | rfl | ⟨i, c, rfl⟩ | ⟨hidle, -⟩
  · simp [refuseWrite]
  · refine (State.engineView_setReply _ _).trans (engineView_command hb (fun hw => ?_) hu)
    simp [hostQuiet, haddr, hw] at hq
  · exact s.engineView_acknowledge data
  · rfl
  · exact absurd (hb.symm.trans hidle) (by decide)

/-- While a command runs every host transaction but the write of `SRST` answers, unseen by the engine (R13). -/
theorem runEvent_quiet {e : Event} (hb : s.busy = true) (hq : hostQuiet e = true) :
    ∃ t, runEvent e s = .next t ∧ t.engineView = s.engineView := by
  cases e with
  | hostRead addr => exact ⟨_, rfl, engineView_hostRead addr s⟩
  | hostWrite addr data =>
    obtain ⟨t, ht⟩ := hostWrite_next addr data s
    exact ⟨t, ht, engineView_hostWrite hb hq ht⟩
  | platformReset => cases hq
  | engineTurn => cases hq
  | wait => cases hq

/-- Settles O46: reads and writes of each kind, case by case in `runEvent_quiet`. -/
theorem hostCannotDisturbARunningCommand : Obligations.HostCannotDisturbARunningCommand :=
  fun _ _ hb hq => runEvent_quiet hb hq

end Sys2Proof.Machine

/-! ## One engine step: the work on one element, then the cursor (spec/43_control.md R180, spec/10_state.md R24) -/

namespace Sys2Proof.Machine

variable {s t u : State}

/-- What one engine step does to the memories, by the phase: one cell seeded, one pixel visited, or one byte
packed (R131, R132, R161). -/
def phaseWork (s : State) : Option State :=
  match s.phase with
  | .idle => none
  | .seed => some (s.writeWbuf s.cursorIndex (BitVec.ofNat 18 (seedOf s.method (s.imemAt s.cursorIndex))))
  | .diffuse =>
    depositAll s.x s.y (sharesOf s.method (quantError (s.wbufAt s.cursorIndex)))
      (s.writeBmem s.cursorIndex (decision (s.wbufAt s.cursorIndex)))
  | .pack => some (s.writePmem (s.y * s.stride.toNat + s.x) (packedByte s s.y s.x))

/-- The work of a step writes the three memories of results and nothing else. -/
theorem phaseWork_frame (h : phaseWork s = some u) :
    ∃ wb bm pm, u = { s with wbuf := wb, bmem := bm, pmem := pm } := by
  unfold phaseWork at h
  split at h
  · cases h
  · cases h; exact ⟨_, _, _, rfl⟩
  · obtain ⟨m, rfl⟩ := depositAll_frame h; exact ⟨_, _, _, rfl⟩
  · cases h; exact ⟨_, _, _, rfl⟩

/-- How many elements of the current phase are done: the cursor's place in the scan (R24). -/
def State.scanPos (s : State) : Nat := s.y * s.limit + s.x

/-- How many elements the current phase has. -/
def State.scanLen (s : State) : Nat := s.rows * s.limit

/-- The work of a step leaves the control alone: readiness, the scan, the phase. -/
theorem phaseWork_control (h : phaseWork s = some u) :
    u.engineReady = s.engineReady ∧ u.limit = s.limit ∧ u.scanPos = s.scanPos ∧ u.scanLen = s.scanLen ∧
      u.phase = s.phase ∧ u.busy = s.busy := by
  obtain ⟨wb, bm, pm, rfl⟩ := phaseWork_frame h
  exact ⟨rfl, rfl, rfl, rfl, rfl, rfl⟩

/-- A busy engine's step is the phase's work, the cursor, and the end of the phase if that was its last element. -/
theorem engineStep_busy_iff (hb : s.busy = true) :
    engineStep s = .next t ↔
      s.engineReady = true ∧ ∃ u, phaseWork s = some u ∧ t = endStep (u.advance s.limit) := by
  have limit_eq : s.phase ≠ .pack → s.limit = s.cols := by unfold State.limit; cases s.phase <;> simp
  unfold engineStep
  rw [if_neg (by simp [hb])]
  cases hr : s.engineReady with
  | false => simp
  | true =>
    rw [if_neg (by simp)]
    cases hp : s.phase with
    | idle => simp [phaseWork, hp]
    | seed =>
      simp only [phaseWork, hp, seedStep, limit_eq (by simp [hp]), Option.some.injEq, exists_eq_left', true_and]
      exact ⟨fun h => by cases h; rfl, fun h => by rw [h]⟩
    | diffuse =>
      simp only [phaseWork, hp, diffuseStep, limit_eq (by simp [hp]), true_and]
      cases depositAll s.x s.y (sharesOf s.method (quantError (s.wbufAt s.cursorIndex)))
        (s.writeBmem s.cursorIndex (decision (s.wbufAt s.cursorIndex))) with
      | none => simp
      | some u =>
        simp only [Option.map_some, Option.some.injEq, exists_eq_left']
        exact ⟨fun h => by cases h; rfl, fun h => by rw [h]⟩
    | pack =>
      have hl : s.limit = s.stride.toNat := by simp [State.limit, hp]
      simp only [phaseWork, hp, packStep, hl, Option.some.injEq, exists_eq_left', true_and]
      exact ⟨fun h => by cases h; rfl, fun h => by rw [h]⟩

/-- `advance` moves one place on in the scan, and past its last place to the start of row H (R24). -/
theorem advance_scan {lim : Nat} (hx : s.x < lim) (hy : s.y < s.rows) (hlim : lim ≤ 2 ^ 32) :
    (s.advance lim).y * lim + (s.advance lim).x = s.y * lim + s.x + 1 ∧ (s.advance lim).x < lim ∧
      (s.advance lim).y ≤ s.rows ∧ ((s.advance lim).y = s.rows → (s.advance lim).x = 0) := by
  have hrows : s.rows < 2 ^ 32 := by
    have := BitVec.toInt_lt (x := s.height)
    unfold State.rows State.frameH signed32; omega
  rcases s.advance_cases lim with ⟨hlt, h⟩ | ⟨hge, h⟩
  · have hx' : (s.advance lim).x = s.x + 1 := by
      rw [h]; change (s.curx + 1#32).toNat = s.curx.toNat + 1
      have : s.curx.toNat + 1 < lim := hlt
      rw [BitVec.toNat_add]; simp; omega
    have hy' : (s.advance lim).y = s.y := by rw [h]; rfl
    rw [hx', hy']; exact ⟨by omega, hlt, hy.le, by omega⟩
  · have hx' : (s.advance lim).x = 0 := by rw [h]; rfl
    have hy' : (s.advance lim).y = s.y + 1 := by
      rw [h]; change (s.cury + 1#32).toNat = s.cury.toNat + 1
      have : s.cury.toNat < s.rows := hy
      rw [BitVec.toNat_add]; simp; omega
    rw [hx', hy']; refine ⟨?_, by omega, hy, fun _ => rfl⟩
    rw [Nat.add_mul]; omega

/-- The limit of a scan is a register's value or half its range. -/
theorem State.limit_le (s : State) : s.limit ≤ 2 ^ 32 := by
  have hw := BitVec.toInt_lt (x := s.width)
  have hs := s.stride.isLt
  have hcols : s.cols ≤ 2 ^ 32 := by unfold State.cols State.frameW signed32; omega
  unfold State.limit; cases s.phase <;> simp only <;> omega

/-- `advance` writes the cursor only. -/
theorem State.advance_frame (s : State) (lim : Nat) :
    s.advance lim = s.setCursor (s.advance lim).curx (s.advance lim).cury := by
  rcases s.advance_cases lim with ⟨-, h⟩ | ⟨-, h⟩ <;> rw [h] <;> rfl

/-- The end of a phase sets the cursor, wherever it was. -/
theorem phaseEnd_setCursor (s : State) (x y : Word) : phaseEnd (s.setCursor x y) = phaseEnd s := rfl

/-- The end of a step: the scan goes on, or it was the last element and the phase ends. -/
theorem endStep_advance (hr : s.engineReady = true) :
    (s.scanPos + 1 < s.scanLen ∧ endStep (s.advance s.limit) = s.advance s.limit ∧
      (s.advance s.limit).scanPos = s.scanPos + 1 ∧ (s.advance s.limit).x < s.limit ∧
      (s.advance s.limit).y < s.rows) ∨
    (s.scanPos + 1 = s.scanLen ∧ endStep (s.advance s.limit) = phaseEnd s) := by
  obtain ⟨-, hH, -, -, -, hx, hy, -⟩ := s.engineReady_nat hr
  obtain ⟨hpos, hx', hy', hwrap⟩ := advance_scan hx hy s.limit_le
  have hfr := s.advance_frame s.limit
  have hlim : (s.advance s.limit).limit = s.limit := by rw [hfr]; rfl
  have hfin : (s.advance s.limit).phaseFinished = decide ((s.advance s.limit).y = s.rows) := by
    have : (s.advance s.limit).frameH = s.frameH := by rw [hfr]; rfl
    unfold State.phaseFinished; rw [this, ← hH]; simp
  unfold endStep State.scanLen
  rw [hfin]
  rcases hy'.lt_or_eq with hlt | heq
  · refine .inl ⟨?_, by rw [if_neg]; simpa using hlt.ne, by unfold State.scanPos; rw [hlim, hpos], hx', hlt⟩
    calc s.scanPos + 1 = (s.advance s.limit).y * s.limit + (s.advance s.limit).x := hpos.symm
      _ < s.rows * s.limit := index_lt hx' hlt (Nat.mul_comm _ _).le
  · refine .inr ⟨?_, by rw [if_pos (by simpa using heq), hfr]; rfl⟩
    calc s.scanPos + 1 = (s.advance s.limit).y * s.limit + (s.advance s.limit).x := hpos.symm
      _ = s.rows * s.limit := by rw [heq, hwrap heq, Nat.add_zero]

/-- Everything a busy engine's step can do (R180, R181). -/
theorem engineStep_busy_cases (hb : s.busy = true) (h : engineStep s = .next t) :
    s.engineReady = true ∧ ∃ u, phaseWork s = some u ∧
      ((s.scanPos + 1 < s.scanLen ∧ t = u.advance s.limit ∧ t.scanPos = s.scanPos + 1 ∧ t.x < s.limit ∧
          t.y < s.rows) ∨
        (s.scanPos + 1 = s.scanLen ∧ t = phaseEnd u)) := by
  obtain ⟨hr, u, hu, rfl⟩ := (engineStep_busy_iff hb).mp h
  obtain ⟨hready, hlim, hpos, hlen, -, -⟩ := phaseWork_control hu
  have hrows : u.rows = s.rows := by obtain ⟨wb, bm, pm, rfl⟩ := phaseWork_frame hu; rfl
  refine ⟨hr, u, hu, ?_⟩
  rcases endStep_advance (hready.trans hr) with ⟨hlt, he, hp, hx, hy⟩ | ⟨heq, he⟩
  · rw [hpos, hlen] at hlt; rw [hlim] at he hp hx hy; rw [hpos] at hp; rw [hrows] at hy
    rw [he]; exact .inl ⟨hlt, rfl, hp, hx, hy⟩
  · rw [hpos, hlen] at heq; rw [hlim] at he
    exact .inr ⟨heq, he⟩

end Sys2Proof.Machine

/-! ## What no transaction and no engine step touches (spec/10_state.md R47) -/

namespace Sys2Proof.Machine

variable {s t u : State}

/-- The parts of a state that belong to no register and no memory: the parameter MAXPIX, the number of resets, and
the events to come (assumption logs 1 to 3). -/
def State.environment (s : State) : Fin 1048576 × Nat × List Event := (s.capQuads, s.epoch, s.pending)

@[simp] theorem State.environment_raise (s : State) (k : ErrKind) (info : ErrInfo) :
    (s.raise k info).environment = s.environment := by cases info <;> rfl

@[simp] theorem State.environment_begin (s : State) (w : Word) : (s.begin w).environment = s.environment := by
  rw [State.begin_eq]; rfl

theorem hostRead_environment (addr : BusAddr) (s : State) : (hostRead addr s).environment = s.environment := by
  rcases hostRead_cases addr s with ⟨data, h⟩ | ⟨-, h⟩ | ⟨-, h⟩ <;> rw [h]
  · rfl
  all_goals exact s.environment_raise _ _

theorem command_environment {w : Word} (h : command w s = .next t) : t.environment = s.environment := by
  rcases command_cases h with ⟨k, rfl⟩ | ⟨-, rfl⟩ | ⟨-, -, rfl⟩ | ⟨-, rfl⟩
  · exact s.environment_raise _ _
  · rfl
  · exact s.environment_begin w
  · rfl

theorem hostWrite_environment {addr : BusAddr} {data : Word} (h : hostWrite addr data s = .next t) :
    t.environment = s.environment := by
  rcases hostWrite_cases h with ⟨k, rfl⟩ | ⟨-, u, hu, rfl⟩ | rfl | ⟨i, c, rfl⟩ | ⟨-, w, h, im, bm, rfl⟩
  · exact s.environment_raise _ _
  · exact command_environment (t := u) hu
  · rfl
  · rfl
  · rfl

/-- A host's transaction leaves the capacity, the epoch and the events to come. -/
theorem runEvent_environment {e : Event} (hq : hostQuiet e = true) (h : runEvent e s = .next t) :
    t.environment = s.environment := by
  cases e with
  | hostRead addr => cases h; exact hostRead_environment addr s
  | hostWrite addr data => exact hostWrite_environment h
  | platformReset => cases hq
  | engineTurn => cases hq
  | wait => cases hq

/-- The end of a phase writes STATUS and the cursor, which is then (0, 0). -/
theorem phaseEnd_frame (s : State) :
    phaseEnd s = { s with status := (phaseEnd s).status, curx := 0#32, cury := 0#32 } := by
  rcases phaseEnd_cases s with ⟨-, h⟩ | ⟨-, -, h⟩ | ⟨-, -, h⟩ | ⟨-, h⟩ | ⟨-, h⟩ <;> rw [h] <;> rfl

/-- An engine step writes STATUS, the cursor and the three memories of results, and nothing else. -/
theorem engineStep_frame (h : engineStep s = .next t) :
    ∃ st cx cy wb bm pm,
      t = { s with status := st, curx := cx, cury := cy, wbuf := wb, bmem := bm, pmem := pm } := by
  cases hb : s.busy with
  | false =>
    rw [engineStep_idle hb] at h; cases h; exact ⟨_, _, _, _, _, _, rfl⟩
  | true =>
    obtain ⟨-, u, hu, ht⟩ := engineStep_busy_cases hb h
    obtain ⟨wb, bm, pm, rfl⟩ := phaseWork_frame hu
    rcases ht with ⟨-, rfl, -⟩ | ⟨-, rfl⟩
    · rw [State.advance_frame]; exact ⟨_, _, _, _, _, _, rfl⟩
    · rw [phaseEnd_frame]; exact ⟨_, _, _, _, _, _, rfl⟩

theorem engineStep_environment (h : engineStep s = .next t) : t.environment = s.environment := by
  obtain ⟨_, _, _, _, _, _, rfl⟩ := engineStep_frame h; rfl

/-- Several engine steps write the same parts. -/
theorem engineRun_frame {k : Nat} (h : engineRun k s = .next t) :
    ∃ st cx cy wb bm pm,
      t = { s with status := st, curx := cx, cury := cy, wbuf := wb, bmem := bm, pmem := pm } := by
  induction k generalizing s with
  | zero => cases h; exact ⟨_, _, _, _, _, _, rfl⟩
  | succ k ih =>
    obtain ⟨v, hv, hr⟩ := engineRun_succ h
    obtain ⟨_, _, _, _, _, _, rfl⟩ := engineStep_frame hv
    obtain ⟨_, _, _, _, _, _, rfl⟩ := ih hr
    exact ⟨_, _, _, _, _, _, rfl⟩

/-- No event changes the capacity (R47). -/
theorem runEvent_capQuads {e : Event} (h : runEvent e s = .next t) : t.capQuads = s.capQuads := by
  have of_env : ∀ {a b : State}, a.environment = b.environment → a.capQuads = b.capQuads :=
    fun h => congrArg Prod.fst h
  cases e with
  | hostRead addr => cases h; exact of_env (hostRead_environment addr s)
  | hostWrite addr data => exact of_env (hostWrite_environment h)
  | platformReset => cases h; rfl
  | engineTurn => exact of_env (engineStep_environment h)
  | wait =>
    simp only [runEvent] at h
    split at h
    · obtain ⟨u, hu, rfl⟩ := mapNext_eq_next h
      exact of_env (a := u) (engineStep_environment hu)
    · cases h; exact of_env (hostRead_environment _ s)

/-- No step changes the capacity (R47). -/
theorem step_capQuads (h : step s = .next t) : t.capQuads = s.capQuads := by
  cases hp : s.pending with
  | nil => rw [step_nil hp] at h; exact congrArg Prod.fst (engineStep_environment h)
  | cons e rest => rw [step_cons hp] at h; exact runEvent_capQuads (s := { s with pending := rest }) h

/-- Settles O51: the bounds are the field's own, and no step writes the field. -/
theorem noStepChangesTheCapacity : Obligations.NoStepChangesTheCapacity := by
  intro s
  obtain ⟨hlo, hhi, hmod⟩ := s.maxpix_bounds
  exact ⟨hlo, hhi, Nat.dvd_of_mod_eq_zero hmod, fun t h => State.maxpix_congr (step_capQuads h)⟩


end Sys2Proof.Machine

/-! ## Interleavings (spec/00_scope.md R12, R13, spec/20_memory.md R75) -/

namespace Sys2Proof.Machine

variable {s t u v : State}

/-! ### The engine's step depends on the engine's view only (R70, R180) -/

@[simp] theorem State.busy_engineView (s : State) : s.engineView.busy = s.busy := by
  simp [State.busy, State.engineView]

@[simp] theorem State.phase_engineView (s : State) : s.engineView.phase = s.phase := by
  simp [State.phase, State.engineView]

/-- Two states that look the same to the engine are both busy or both idle. -/
theorem State.busy_congr (hv : v.engineView = s.engineView) : v.busy = s.busy := by
  rw [← v.busy_engineView, hv, s.busy_engineView]

@[simp] theorem State.limit_engineView (s : State) : s.engineView.limit = s.limit := by
  unfold State.limit; rw [s.phase_engineView]; rfl

@[simp] theorem State.engineReady_engineView (s : State) : s.engineView.engineReady = s.engineReady := by
  unfold State.engineReady; rw [s.phase_engineView, s.limit_engineView]; rfl

@[simp] theorem State.engineView_setDone (s : State) (b : Bool) : (s.setDone b).engineView = s.engineView := by
  simp only [State.engineView, State.setDone,
    withBit_and_of_mask s.status b (show 1 < 32 by decide) (show (0x0000000D#32).getLsbD 1 = false by decide)]

@[simp] theorem State.engineView_engineView (s : State) : s.engineView.engineView = s.engineView := by
  simp only [State.engineView, BitVec.and_assoc, BitVec.and_self]

theorem State.engineView_setBusy (s : State) (b : Bool) :
    (s.engineView.setBusy b).engineView = (s.setBusy b).engineView := by
  simp only [State.engineView, State.setBusy, withBit_and_and _ _ b (show 0 < 32 by decide)]

theorem State.engineView_setPhase (s : State) (p : Phase) :
    (s.engineView.setPhase p).engineView = (s.setPhase p).engineView := by
  have hst : withBit (withBit (s.status &&& 0x0000000D#32) 2 p.lo) 3 p.hi &&& 0x0000000D#32 =
      withBit (withBit s.status 2 p.lo) 3 p.hi &&& 0x0000000D#32 := by
    rw [← withBit_and_and (withBit (s.status &&& 0x0000000D#32) 2 p.lo) _ _ (by decide),
      withBit_and_and s.status _ _ (by decide), withBit_and_and _ _ _ (by decide)]
  simp only [State.engineView, State.setPhase, hst]

theorem State.engineView_setCursor (s : State) (x y : Word) :
    s.engineView.setCursor x y = (s.setCursor x y).engineView := rfl

/-- DONE, which completion writes, is outside the view. -/
theorem State.engineView_complete (s : State) : (complete s.engineView).engineView = (complete s).engineView := by
  unfold complete
  rw [State.engineView_setDone, State.engineView_setDone, ← State.engineView_setBusy,
    ← State.engineView_setBusy (s.setPhase .idle), s.engineView_setPhase]

theorem State.engineView_phaseEnd (s : State) : (phaseEnd s.engineView).engineView = (phaseEnd s).engineView := by
  have hphase := s.phase_engineView
  have hactcmd : s.engineView.actcmd = s.actcmd := rfl
  unfold phaseEnd
  rw [hphase, hactcmd, s.engineView_setCursor]
  cases s.phase with
  | idle => exact State.engineView_engineView _
  | seed => exact State.engineView_setPhase _ _
  | diffuse =>
    cases hasPack s.actcmd
    · exact State.engineView_complete _
    · exact State.engineView_setPhase _ _
  | pack => exact State.engineView_complete _

theorem State.engineView_endStep (s : State) : (endStep s.engineView).engineView = (endStep s).engineView := by
  have hfin : s.engineView.phaseFinished = s.phaseFinished := rfl
  unfold endStep
  rw [hfin]
  cases s.phaseFinished
  · exact s.engineView_engineView
  · exact s.engineView_phaseEnd

theorem State.engineView_advance (s : State) (lim : Nat) :
    s.engineView.advance lim = (s.advance lim).engineView := by
  have hx : s.engineView.x = s.x := rfl
  unfold State.advance
  rw [hx]
  split <;> rfl

/-- Deposits read and write cells only, which are in the view. -/
theorem depositAll_engineView (x y : Int) (l : List Share) (s : State) :
    depositAll x y l s.engineView = (depositAll x y l s).map State.engineView := by
  have deposit_engineView : ∀ (x y d : Int) (s : State),
      deposit x y d s.engineView = (deposit x y d s).map State.engineView := by
    intro x y d s
    have hin : s.engineView.inFrame x y = s.inFrame x y := rfl
    unfold deposit
    rw [hin]
    split
    · rw [Option.map_map]; rfl
    · rfl
  induction l generalizing s with
  | nil => rfl
  | cons a rest ih =>
    unfold depositAll
    rw [deposit_engineView]
    cases deposit (x + a.dx) (y + a.dy) a.d s with
    | none => rfl
    | some u => exact ih u

/-- The work of a step is the same on the view. -/
theorem phaseWork_engineView (s : State) : phaseWork s.engineView = (phaseWork s).map State.engineView := by
  have hphase := s.phase_engineView
  unfold phaseWork
  rw [hphase]
  cases s.phase with
  | idle => rfl
  | seed => rfl
  | diffuse => exact depositAll_engineView _ _ _ (s.writeBmem s.cursorIndex (decision (s.wbufAt s.cursorIndex)))
  | pack => rfl

/-- Two states that look the same to the engine step alike. -/
theorem engineStep_congr (hv : v.engineView = s.engineView) (h : engineStep s = .next t) :
    ∃ t', engineStep v = .next t' ∧ t'.engineView = t.engineView := by
  have hbusy := State.busy_congr hv
  have hready : v.engineReady = s.engineReady := by
    rw [← v.engineReady_engineView, hv, s.engineReady_engineView]
  have hlimit : v.limit = s.limit := by rw [← v.limit_engineView, hv, s.limit_engineView]
  cases hb : s.busy with
  | false =>
    rw [engineStep_idle hb] at h; cases h
    exact ⟨v, engineStep_idle (hbusy.trans hb), hv⟩
  | true =>
    obtain ⟨hr, u, hu, rfl⟩ := (engineStep_busy_iff hb).mp h
    have hwork : (phaseWork v).map State.engineView = some u.engineView := by
      rw [← phaseWork_engineView, hv, phaseWork_engineView, hu]; rfl
    obtain ⟨w, hw, hwu⟩ := Option.map_eq_some_iff.mp hwork
    refine ⟨_, (engineStep_busy_iff (hbusy.trans hb)).mpr ⟨hready.trans hr, w, hw, rfl⟩, ?_⟩
    rw [hlimit, ← State.engineView_endStep, ← State.engineView_advance, hwu, State.engineView_advance,
      State.engineView_endStep]

/-- A step that ends the command sets DONE (R182). -/
theorem engineStep_done (hb : s.busy = true) (h : engineStep s = .next t) (hidle : t.busy = false) :
    t.done = true := by
  obtain ⟨-, u, hu, ht⟩ := engineStep_busy_cases hb h
  obtain ⟨-, -, -, -, -, hub⟩ := phaseWork_control hu
  have hbusy : u.busy = true := hub.trans hb
  rcases ht with ⟨-, rfl, -⟩ | ⟨-, rfl⟩
  · rw [State.advance_frame, State.busy_setCursor, hbusy] at hidle; cases hidle
  · have hgoesOn : ∀ p, ((u.setCursor 0#32 0#32).setPhase p).busy = true := by simp [hbusy]
    rcases phaseEnd_cases u with ⟨-, h⟩ | ⟨-, -, h⟩ | ⟨-, -, h⟩ | ⟨-, h⟩ | ⟨-, h⟩ <;> rw [h] at hidle ⊢
    · exact absurd ((hgoesOn _).symm.trans hidle) (by decide)
    · exact absurd ((hgoesOn _).symm.trans hidle) (by decide)
    · exact done_complete _
    · exact done_complete _
    · exact absurd (hbusy.symm.trans hidle) (by decide)

/-! ### Runs of the engine and of the block -/

/-- The block's run: one step, then the rest. -/
theorem coreRun_succ {k : Nat} (h : step s = .next t) :
    Host.Core.run core (k + 1) s = Host.Core.run core k t := by
  have h' : core.step s = .next t := h
  simp only [Host.Core.run, h']

/-- Runs of the block compose. -/
theorem coreRun_add {j k : Nat} (h : Host.Core.run core j s = .next t) :
    Host.Core.run core (j + k) s = Host.Core.run core k t := by
  induction j generalizing s with
  | zero => cases h; rw [Nat.zero_add]
  | succ j ih =>
    rw [Nat.add_right_comm]
    simp only [Host.Core.run] at h ⊢
    split at h
    · exact ih h
    · cases h
    · cases h

/-- A run of the engine passes through each of its earlier states. -/
theorem engineRun_split {j k : Nat} (h : engineRun (j + k) s = .next t) :
    ∃ v, engineRun j s = .next v ∧ engineRun k v = .next t := by
  induction j generalizing s with
  | zero => exact ⟨s, rfl, by rwa [Nat.zero_add] at h⟩
  | succ j ih =>
    rw [Nat.add_right_comm] at h
    obtain ⟨w, hw, hr⟩ := engineRun_succ h
    obtain ⟨v, hv, hr'⟩ := ih hr
    exact ⟨v, by simp only [engineRun, hw, hv], hr'⟩

/-- An idle engine stays where it is, so a run that ends busy was busy all along. -/
theorem busy_of_engineRun {k : Nat} (h : engineRun k s = .next u) (hu : u.busy = true) : s.busy = true := by
  induction k generalizing s with
  | zero => cases h; exact hu
  | succ k ih =>
    obtain ⟨v, hv, hr⟩ := engineRun_succ h
    have hvb := ih hr
    by_contra hs
    rw [engineStep_idle (by simpa using hs)] at hv
    cases hv
    exact hs hvb

/-- While the command runs, the block over a list of host transactions and engine turns stays in the engine's eyes
where that many engine steps lead (R13, R75). -/
theorem coreRun_interleaving {l rest : List Event} (hl : ∀ e ∈ l, quietOrTurn e = true)
    (hv : v.engineView = s.engineView) (hpend : v.pending = l ++ rest)
    (h : engineRun (l.count .engineTurn) s = .next u) (hu : u.busy = true) :
    ∃ t, Host.Core.run core l.length v = .next t ∧ t.engineView = u.engineView ∧ t.pending = rest := by
  induction l generalizing s v with
  | nil => cases h; exact ⟨v, rfl, hv, hpend⟩
  | cons e l ih =>
    have hl' : ∀ e ∈ l, quietOrTurn e = true := fun e he => hl e (List.mem_cons_of_mem _ he)
    have hstep := step_cons hpend
    rw [List.length_cons]
    by_cases he : e = .engineTurn
    · subst he
      rw [List.count_cons_self] at h
      obtain ⟨s', hs', hr⟩ := engineRun_succ h
      obtain ⟨v', hv', hview⟩ := engineStep_congr (v := { v with pending := l ++ rest }) hv hs'
      rw [coreRun_succ (hstep.trans hv')]
      exact ih hl' hview (congrArg (·.2.2) (engineStep_environment hv')) hr
    · have hq : hostQuiet e = true := by
        simpa [quietOrTurn, he] using hl e List.mem_cons_self
      rw [List.count_cons_of_ne he] at h
      have hvb : v.busy = true := (State.busy_congr hv).trans (busy_of_engineRun h hu)
      obtain ⟨v', hv', hview⟩ := runEvent_quiet (s := { v with pending := l ++ rest }) hvb hq
      rw [coreRun_succ (hstep.trans hv')]
      exact ih hl' (hview.trans hv) (congrArg (·.2.2) (runEvent_environment hq hv')) h

/-- Settles O47: the transactions and turns of a running command by induction on the list; a turn that completes it
is one more step, on the same view. -/
theorem interleavingDoesNotChangeARunningCommand : Obligations.InterleavingDoesNotChangeARunningCommand := by
  intro s u l hs hl h hcase
  cases hu : u.busy with
  | true =>
    obtain ⟨t, ht, hview, -⟩ := coreRun_interleaving (s := s) (v := { s with pending := l }) (rest := []) hl rfl
      (List.append_nil l).symm h hu
    exact ⟨t, ht, hview, fun hidle => nomatch hidle⟩
  | false =>
    obtain hbusy | ⟨l', rfl, hearlier⟩ := hcase
    · rw [hu] at hbusy; cases hbusy
    rw [List.count_append, List.count_singleton_self] at h
    obtain ⟨w, hw, hlast⟩ : ∃ w, engineRun (l'.count .engineTurn) s = .next w ∧ engineStep w = .next u := by
      obtain ⟨w, hw, hr⟩ := engineRun_split h
      obtain ⟨w', hw', hr'⟩ := engineRun_succ hr
      cases hr'
      exact ⟨w, hw, hw'⟩
    have hwb := hearlier w hw
    obtain ⟨v, hv, hview, hpend⟩ := coreRun_interleaving (s := s) (v := { s with pending := l' ++ [.engineTurn] })
      (fun e he => hl e (List.mem_append_left _ he)) rfl rfl hw hwb
    obtain ⟨t, ht, htview⟩ := engineStep_congr (v := { v with pending := [] }) hview hlast
    have htb : t.busy = false := (State.busy_congr htview).trans hu
    have hvb : v.busy = true := (State.busy_congr hview).trans hwb
    refine ⟨t, ?_, htview, fun _ => ⟨htb, engineStep_done (s := { v with pending := [] }) hvb ht htb⟩⟩
    rw [List.length_append, coreRun_add hv]
    exact coreRun_succ ((step_cons hpend).trans ht)

end Sys2Proof.Machine

/-! ## A command's control and the steps it has left (spec/43_control.md R181, R187, spec/10_state.md R49) -/

namespace Sys2Proof.Machine

variable {s t u : State}

/-! ### What the end of a phase and acceptance leave alone -/

section Frame

variable (s : State)

@[simp] theorem phaseEnd_width : (phaseEnd s).width = s.width := by rw [phaseEnd_frame]
@[simp] theorem phaseEnd_height : (phaseEnd s).height = s.height := by rw [phaseEnd_frame]
@[simp] theorem phaseEnd_stride : (phaseEnd s).stride = s.stride := by rw [phaseEnd_frame]
@[simp] theorem phaseEnd_plen : (phaseEnd s).plen = s.plen := by rw [phaseEnd_frame]
@[simp] theorem phaseEnd_curx : (phaseEnd s).curx = 0#32 := by rw [phaseEnd_frame]
@[simp] theorem phaseEnd_cury : (phaseEnd s).cury = 0#32 := by rw [phaseEnd_frame]
@[simp] theorem phaseEnd_actcmd : (phaseEnd s).actcmd = s.actcmd := by rw [phaseEnd_frame]
@[simp] theorem cols_phaseEnd : (phaseEnd s).cols = s.cols := by rw [phaseEnd_frame]; rfl
@[simp] theorem rows_phaseEnd : (phaseEnd s).rows = s.rows := by rw [phaseEnd_frame]; rfl
@[simp] theorem frameLegal_phaseEnd : (phaseEnd s).frameLegal = s.frameLegal := by rw [phaseEnd_frame]; rfl
@[simp] theorem scanPos_phaseEnd : (phaseEnd s).scanPos = 0 := by simp [State.scanPos, State.x, State.y]
@[simp] theorem imemAt_phaseEnd (j : Nat) : (phaseEnd s).imemAt j = s.imemAt j := by rw [phaseEnd_frame]; rfl
@[simp] theorem wbufAt_phaseEnd (j : Nat) : (phaseEnd s).wbufAt j = s.wbufAt j := by rw [phaseEnd_frame]; rfl
@[simp] theorem bmemAt_phaseEnd (j : Nat) : (phaseEnd s).bmemAt j = s.bmemAt j := by rw [phaseEnd_frame]; rfl
@[simp] theorem pmemAt_phaseEnd (j : Nat) : (phaseEnd s).pmemAt j = s.pmemAt j := by rw [phaseEnd_frame]; rfl

variable (w : Word)

@[simp] theorem State.begin_width : (s.begin w).width = s.width := by rw [State.begin_eq]
@[simp] theorem State.begin_height : (s.begin w).height = s.height := by rw [State.begin_eq]
@[simp] theorem State.begin_curx : (s.begin w).curx = 0#32 := by rw [State.begin_eq]
@[simp] theorem State.begin_cury : (s.begin w).cury = 0#32 := by rw [State.begin_eq]
@[simp] theorem State.begin_actcmd : (s.begin w).actcmd = w := by rw [State.begin_eq]
@[simp] theorem State.cols_begin : (s.begin w).cols = s.cols := by rw [State.begin_eq]; rfl
@[simp] theorem State.rows_begin : (s.begin w).rows = s.rows := by rw [State.begin_eq]; rfl
@[simp] theorem State.frameLegal_begin : (s.begin w).frameLegal = s.frameLegal := by rw [State.begin_eq]; rfl
@[simp] theorem State.scanPos_begin : (s.begin w).scanPos = 0 := by simp [State.scanPos, State.x, State.y]
@[simp] theorem State.imemAt_begin (j : Nat) : (s.begin w).imemAt j = s.imemAt j := by rw [State.begin_eq]; rfl
@[simp] theorem State.bmemAt_begin (j : Nat) : (s.begin w).bmemAt j = s.bmemAt j := by rw [State.begin_eq]; rfl

end Frame

/-! ### The control of a running command (R24, R29, R30, R181) -/

/-- The phase that follows the current one (R181). -/
def State.nextPhase (s : State) : Phase :=
  match s.phase with
  | .idle => .idle
  | .seed => .diffuse
  | .diffuse => if hasPack s.actcmd then .pack else .idle
  | .pack => .idle

/-- The end of a phase enters the next one. -/
theorem phase_phaseEnd (s : State) : (phaseEnd s).phase = s.nextPhase := by
  unfold State.nextPhase
  rcases phaseEnd_cases s with ⟨hp, h⟩ | ⟨hp, hk, h⟩ | ⟨hp, hk, h⟩ | ⟨hp, h⟩ | ⟨hp, h⟩ <;> rw [h, hp]
  · simp
  · simp [hk]
  · simp [hk]
  · simp
  · simpa using hp

/-- A phase's end leaves the block busy when another phase follows. -/
theorem busy_phaseEnd (hb : s.busy = true) (hp : s.phase ≠ .idle) :
    (phaseEnd s).busy = true ↔ s.nextPhase ≠ .idle := by
  unfold State.nextPhase
  rcases phaseEnd_cases s with ⟨hq, h⟩ | ⟨hq, hk, h⟩ | ⟨hq, hk, h⟩ | ⟨hq, h⟩ | ⟨hq, h⟩ <;> rw [h, hq]
  · simpa using hb
  · simpa [hk] using hb
  · simp [hk]
  · simp
  · exact absurd hq hp

/-- BUSY and PHASE together (R27). -/
theorem State.busyOk_iff (s : State) : s.busyOk = true ↔ (s.busy = true ↔ s.phase ≠ .idle) := by
  unfold State.busyOk
  cases s.busy <;> cases s.phase <;> decide

/-- The engine's guard, clause by clause. -/
theorem State.engineReady_iff (s : State) :
    s.engineReady = true ↔ s.frameLegal = true ∧ s.x < s.limit ∧ s.y < s.rows ∧
      (s.phase = .pack → s.stride.toNat = ceil8 s.cols) := by
  unfold State.engineReady
  cases s.phase <;> simp [and_assoc]

/-- What the invariant says of a running command. -/
structure State.Running (s : State) : Prop where
  ready : s.engineReady = true
  packs : s.phase = .pack → hasPack s.actcmd = true
  dithers : s.phase ≠ .pack → hasDither s.actcmd = true
  stride : hasPack s.actcmd = true → s.stride.toNat = ceil8 s.cols
  plen : hasPack s.actcmd = true → s.plen.toNat = s.rows * ceil8 s.cols

/-- The model's check is that structure. -/
theorem State.runningOk_iff (s : State) : s.runningOk = true ↔ (s.busy = true → s.Running) := by
  have hrunning : s.Running ↔ s.engineReady = true ∧
      (if s.phase == .pack then hasPack s.actcmd else hasDither s.actcmd) = true ∧
      (!hasPack s.actcmd || (s.stride.toNat == ceil8 s.cols && s.plen.toNat == s.rows * ceil8 s.cols)) = true := by
    constructor
    · rintro ⟨hr, hp, hd, hs, hl⟩
      refine ⟨hr, ?_, ?_⟩
      · by_cases hq : s.phase = .pack <;> simp [hq, hp, hd]
      · cases hk : hasPack s.actcmd <;> simp [hk, hs, hl]
    · rintro ⟨hr, hpd, hk⟩
      refine ⟨hr, fun hq => by simpa [hq] using hpd, fun hq => by simpa [hq] using hpd, fun h => ?_, fun h => ?_⟩ <;>
        simp [h] at hk
      · exact hk.1
      · exact hk.2
  unfold State.runningOk
  rw [hrunning]
  cases s.busy <;> simp [and_assoc]

/-- At the start of a phase the engine is ready. -/
theorem engineReady_of_origin (hl : s.frameLegal = true) (hx : s.curx = 0#32) (hy : s.cury = 0#32)
    (hp : s.phase = .pack → s.stride.toNat = ceil8 s.cols) : s.engineReady = true := by
  obtain ⟨-, -, hw, hh, -⟩ := s.frameLegal_nat hl
  have hx0 : s.x = 0 := congrArg BitVec.toNat hx
  have hy0 : s.y = 0 := congrArg BitVec.toNat hy
  have hlimit : 0 < s.limit := by
    unfold State.limit
    cases hq : s.phase
    case pack => rw [hp hq]; exact ceil8_pos hw
    all_goals exact hw
  exact s.engineReady_iff.mpr ⟨hl, by omega, by omega, hp⟩

/-- A phase's end keeps what holds of a running command, if the command still runs (R181). -/
theorem running_phaseEnd (hb : s.busy = true) (hp : s.phase ≠ .idle) (hs : s.Running)
    (ht : (phaseEnd s).busy = true) : (phaseEnd s).Running := by
  have hpacks : s.nextPhase = .pack → hasPack s.actcmd = true := by
    unfold State.nextPhase; cases s.phase <;> simp
  have hdithers : s.nextPhase ≠ .pack → hasDither s.actcmd = true := by
    have hbusy := (busy_phaseEnd hb hp).mp ht
    have hd := hs.dithers
    unfold State.nextPhase at hbusy ⊢
    cases hq : s.phase <;> simp_all
  have hlegal := (s.engineReady_iff.mp hs.ready).1
  refine ⟨engineReady_of_origin (by simpa using hlegal) (phaseEnd_curx s) (phaseEnd_cury s) ?_, ?_, ?_, ?_, ?_⟩
  · rw [phase_phaseEnd, phaseEnd_stride, cols_phaseEnd]; exact fun hq => hs.stride (hpacks hq)
  · rw [phase_phaseEnd, phaseEnd_actcmd]; exact hpacks
  · rw [phase_phaseEnd, phaseEnd_actcmd]; exact hdithers
  · rw [phaseEnd_actcmd, phaseEnd_stride, cols_phaseEnd]; exact hs.stride
  · rw [phaseEnd_actcmd, phaseEnd_plen, rows_phaseEnd, cols_phaseEnd]; exact hs.plen

/-- The engine keeps the control of a running command (R49). -/
theorem engineStep_keeps_control (hbusy : s.busyOk = true) (hrun : s.runningOk = true)
    (h : engineStep s = .next t) : t.busyOk = true ∧ t.runningOk = true := by
  cases hb : s.busy with
  | false => rw [engineStep_idle hb] at h; cases h; exact ⟨hbusy, hrun⟩
  | true =>
    have hphase := (s.busyOk_iff.mp hbusy).mp hb
    have hs := s.runningOk_iff.mp hrun hb
    obtain ⟨-, u, hu, ht⟩ := engineStep_busy_cases hb h
    obtain ⟨wb, bm, pm, rfl⟩ := phaseWork_frame hu
    rcases ht with ⟨-, rfl, -, hx, hy⟩ | ⟨-, rfl⟩
    · rw [State.advance_frame] at hx hy ⊢
      obtain ⟨hlegal, -, -, hpack⟩ := s.engineReady_iff.mp hs.ready
      exact ⟨hbusy, (State.runningOk_iff _).mpr fun _ =>
        ⟨(State.engineReady_iff _).mpr ⟨hlegal, hx, hy, hpack⟩, hs.packs, hs.dithers, hs.stride, hs.plen⟩⟩
    · refine ⟨(State.busyOk_iff _).mpr ?_, (State.runningOk_iff _).mpr (running_phaseEnd hb hphase ?_)⟩
      · rw [phase_phaseEnd]; exact busy_phaseEnd hb hphase
      · exact ⟨hs.ready, hs.packs, hs.dithers, hs.stride, hs.plen⟩

/-! ### The start of a command (R176) -/

/-- STRIDE and PLEN of a legal frame fit their registers. -/
theorem pack_registers_fit (hl : s.frameLegal = true) :
    ceil8 s.cols < 2 ^ 32 ∧ s.rows * ceil8 s.cols < 2 ^ 32 := by
  obtain ⟨-, -, hw, hh, hcap⟩ := s.frameLegal_nat hl
  obtain ⟨-, hmax, -⟩ := s.maxpix_bounds
  have hlen : s.rows * ceil8 s.cols ≤ s.cols * s.rows := by
    rw [Nat.mul_comm s.cols]; exact Nat.mul_le_mul_left _ (ceil8_le _)
  have hstride : ceil8 s.cols ≤ s.rows * ceil8 s.cols := Nat.le_mul_of_pos_left _ hh
  omega

/-- Acceptance latches the stride of the frame (R29). -/
theorem stride_begin (hl : s.frameLegal = true) {w : Word} (hw : hasPack w = true) :
    (s.begin w).stride.toNat = ceil8 s.cols := by
  rw [State.begin_eq]
  simpa [hw] using (pack_registers_fit hl).1

/-- Acceptance latches the bitmap's length (R30). -/
theorem plen_begin (hl : s.frameLegal = true) {w : Word} (hw : hasPack w = true) :
    (s.begin w).plen.toNat = s.rows * ceil8 s.cols := by
  rw [State.begin_eq]
  simpa [hw] using (pack_registers_fit hl).2

/-- An accepted command is a running one (R176). -/
theorem running_begin (hl : s.frameLegal = true) {w : Word} (hw : hasDither w = true ∨ hasPack w = true) :
    (s.begin w).Running := by
  have hpacks : (s.begin w).phase = .pack → hasPack w = true := by
    rw [State.phase_begin]; cases hd : hasDither w <;> simp_all
  refine ⟨engineReady_of_origin (by simpa using hl) (s.begin_curx w) (s.begin_cury w) ?_, ?_, ?_, ?_, ?_⟩
  · rw [State.cols_begin]; exact fun hq => stride_begin hl (hpacks hq)
  · rw [State.begin_actcmd]; exact hpacks
  · rw [State.begin_actcmd, State.phase_begin]; cases hasDither w <;> simp
  · rw [State.begin_actcmd, State.cols_begin]; exact stride_begin hl
  · rw [State.begin_actcmd, State.cols_begin, State.rows_begin]; exact plen_begin hl

/-- Acceptance establishes the control of a running command. -/
theorem begin_control (hl : s.frameLegal = true) {w : Word} (hw : hasDither w = true ∨ hasPack w = true) :
    (s.begin w).busyOk = true ∧ (s.begin w).runningOk = true := by
  refine ⟨(State.busyOk_iff _).mpr ?_, (State.runningOk_iff _).mpr fun _ => running_begin hl hw⟩
  rw [State.busy_begin, State.phase_begin]
  cases hasDither w <;> simp

/-- The eight commands with a stage have one. -/
theorem hasStage_of_staged {i : Instr} (hi : i ∈ stagedInstrs) :
    hasDither (encode i) = true ∨ hasPack (encode i) = true := by
  revert i; decide

/-! ### How many steps a command has left (R187) -/

/-- The elements of the phases after the current one. -/
def State.laterLen (s : State) : Nat :=
  let packLen := if hasPack s.actcmd then s.rows * ceil8 s.cols else 0
  match s.phase with
  | .idle => 0
  | .seed => s.rows * s.cols + packLen
  | .diffuse => packLen
  | .pack => 0

/-- The steps a running command has left. -/
def State.stepsLeft (s : State) : Nat := if s.busy then s.scanLen - s.scanPos + s.laterLen else 0

/-- Inside a phase there is at least one element left. -/
theorem scanPos_lt_scanLen (hr : s.engineReady = true) : s.scanPos < s.scanLen := by
  obtain ⟨-, hx, hy, -⟩ := s.engineReady_iff.mp hr
  exact index_lt hx hy (Nat.mul_comm _ _).le

/-- A running command has a step left. -/
theorem stepsLeft_pos (hrun : s.runningOk = true) (hb : s.busy = true) : 0 < s.stepsLeft := by
  have := scanPos_lt_scanLen (s.runningOk_iff.mp hrun hb).ready
  unfold State.stepsLeft
  rw [if_pos hb]
  omega

/-- At a phase's end what is left is the later phases. -/
theorem stepsLeft_phaseEnd (hb : s.busy = true) (hp : s.phase ≠ .idle) (hs : s.Running) :
    (phaseEnd s).stepsLeft = s.laterLen := by
  have hbusy := busy_phaseEnd hb hp
  have hstride := hs.stride
  have hpacks := hs.packs
  simp only [State.stepsLeft, State.scanLen, State.laterLen, State.limit, scanPos_phaseEnd, phase_phaseEnd,
    phaseEnd_actcmd, phaseEnd_stride, cols_phaseEnd, rows_phaseEnd]
  unfold State.nextPhase at *
  cases hq : s.phase <;> cases hk : hasPack s.actcmd <;> simp_all

/-- Each engine step uses up one, and an idle engine none. -/
theorem stepsLeft_engineStep (hbusy : s.busyOk = true) (hrun : s.runningOk = true)
    (h : engineStep s = .next t) : t.stepsLeft = s.stepsLeft - 1 := by
  cases hb : s.busy with
  | false =>
    rw [engineStep_idle hb] at h; cases h
    simp [State.stepsLeft, hb]
  | true =>
    have hphase := (s.busyOk_iff.mp hbusy).mp hb
    have hs := s.runningOk_iff.mp hrun hb
    obtain ⟨-, u, hu, ht⟩ := engineStep_busy_cases hb h
    obtain ⟨wb, bm, pm, rfl⟩ := phaseWork_frame hu
    have hleft : s.stepsLeft = s.scanLen - s.scanPos + s.laterLen := if_pos hb
    rcases ht with ⟨hlt, ht, hpos, -⟩ | ⟨hlast, rfl⟩
    · have htleft : t.stepsLeft = t.scanLen - t.scanPos + t.laterLen := by
        rw [ht, State.advance_frame]; exact if_pos hb
      have hlen : t.scanLen = s.scanLen := by rw [ht, State.advance_frame]; rfl
      have hlater : t.laterLen = s.laterLen := by rw [ht, State.advance_frame]; rfl
      omega
    · have hend : (phaseEnd { s with wbuf := wb, bmem := bm, pmem := pm }).stepsLeft = s.laterLen :=
        stepsLeft_phaseEnd hb hphase ⟨hs.ready, hs.packs, hs.dithers, hs.stride, hs.plen⟩
      omega

/-- A run keeps the control and uses up one step each. -/
theorem engineRun_control {k : Nat} (hbusy : s.busyOk = true) (hrun : s.runningOk = true)
    (h : engineRun k s = .next t) :
    t.busyOk = true ∧ t.runningOk = true ∧ t.stepsLeft = s.stepsLeft - k := by
  induction k generalizing s with
  | zero => cases h; exact ⟨hbusy, hrun, rfl⟩
  | succ k ih =>
    obtain ⟨u, hu, hr⟩ := engineRun_succ h
    obtain ⟨hbusy', hrun'⟩ := engineStep_keeps_control hbusy hrun hu
    obtain ⟨h1, h2, h3⟩ := ih hbusy' hrun' hr
    have := stepsLeft_engineStep hbusy hrun hu
    exact ⟨h1, h2, by omega⟩

/-- A command has the steps R187 counts. -/
theorem stepsLeft_begin (hl : s.frameLegal = true) {w : Word} (hw : hasDither w = true ∨ hasPack w = true) :
    (s.begin w).stepsLeft = commandSteps w s := by
  have hstride := stride_begin hl (w := w)
  simp only [State.stepsLeft, State.scanLen, State.laterLen, State.limit, commandSteps, State.busy_begin,
    State.scanPos_begin, State.phase_begin, State.begin_actcmd, State.cols_begin, State.rows_begin,
    Nat.mul_comm s.cols]
  cases hd : hasDither w with
  | true => cases hk : hasPack w <;> simp <;> omega
  | false =>
    have hk : hasPack w = true := by simpa [hd] using hw
    simp [hk, hstride hk]

end Sys2Proof.Machine

/-! ## Two runs of one command (spec/00_scope.md R13, spec/41_dither.md R143) -/

namespace Sys2Proof.Machine

/-! ### Two runs side by side: the control (R13, R143) -/

/-- The two states hold the same control: the frame, the cursor, the command and its phase, and for a command with a
pack stage its stride. Capacity, flags, the host's registers and all memories may differ. -/
structure SameControl (a b : State) : Prop where
  width : a.width = b.width
  height : a.height = b.height
  curx : a.curx = b.curx
  cury : a.cury = b.cury
  actcmd : a.actcmd = b.actcmd
  busy : a.busy = b.busy
  phase : a.phase = b.phase
  stride : hasPack a.actcmd = true → a.stride = b.stride

variable {a b a' b' : State}

namespace SameControl

theorem cols (h : SameControl a b) : a.cols = b.cols := State.cols_congr h.width
theorem rows (h : SameControl a b) : a.rows = b.rows := State.rows_congr h.height
theorem x (h : SameControl a b) : a.x = b.x := congrArg BitVec.toNat h.curx
theorem y (h : SameControl a b) : a.y = b.y := congrArg BitVec.toNat h.cury

theorem cursorIndex (h : SameControl a b) : a.cursorIndex = b.cursorIndex := by
  unfold State.cursorIndex; rw [h.x, h.y, h.cols]

/-- The same control scans alike: a pack phase has the stride in common. -/
theorem limit (h : SameControl a b) (hp : a.phase = .pack → hasPack a.actcmd = true) : a.limit = b.limit := by
  have hcols := h.cols
  have hstride := fun hq => h.stride (hp hq)
  unfold State.limit
  rw [← h.phase]
  cases hq : a.phase
  case pack => exact congrArg BitVec.toNat (hstride hq)
  all_goals exact hcols

/-- The memories' work keeps the control the same. -/
theorem phaseWork (h : SameControl a b) (ha : phaseWork a = some a') (hb : phaseWork b = some b') :
    SameControl a' b' := by
  obtain ⟨_, _, _, rfl⟩ := phaseWork_frame ha
  obtain ⟨_, _, _, rfl⟩ := phaseWork_frame hb
  exact ⟨h.width, h.height, h.curx, h.cury, h.actcmd, h.busy, h.phase, h.stride⟩

/-- So does moving the cursor. -/
theorem advance (h : SameControl a b) (lim : Nat) : SameControl (a.advance lim) (b.advance lim) := by
  unfold State.advance
  rw [← h.x, ← h.curx, ← h.cury]
  split <;> exact ⟨h.width, h.height, rfl, rfl, h.actcmd, h.busy, h.phase, h.stride⟩

/-- And the end of a phase. -/
theorem phaseEnd (h : SameControl a b) (hb : a.busy = true) (hp : a.phase ≠ .idle) :
    SameControl (phaseEnd a) (phaseEnd b) := by
  have hnext : a.nextPhase = b.nextPhase := by unfold State.nextPhase; rw [h.phase, h.actcmd]
  have hbusy : (Machine.phaseEnd a).busy = true ↔ (Machine.phaseEnd b).busy = true := by
    rw [busy_phaseEnd hb hp, busy_phaseEnd (h.busy ▸ hb) (h.phase ▸ hp), hnext]
  exact {
    width := by simpa using h.width
    height := by simpa using h.height
    curx := by simp
    cury := by simp
    actcmd := by simpa using h.actcmd
    busy := Bool.eq_iff_iff.mpr hbusy
    phase := by simpa only [phase_phaseEnd] using hnext
    stride := by simpa using h.stride }

/-- Acceptance of one command on two frames of the same dimensions (R176). -/
theorem begin_of_dims (hw : a.width = b.width) (hh : a.height = b.height) (w : Word) :
    SameControl (a.begin w) (b.begin w) := by
  have hcols : a.cols = b.cols := State.cols_congr hw
  exact {
    width := by simpa using hw
    height := by simpa using hh
    curx := by simp
    cury := by simp
    actcmd := by simp
    busy := by simp
    phase := by simp
    stride := fun hk => by
      rw [State.begin_actcmd] at hk
      simp only [State.begin_eq, hk, if_true, hcols] }

end SameControl

/-! ### Two runs side by side: the memories -/

/-- The first `n` elements are the same. -/
def AgreeBelow {α : Type} (n : Nat) (f g : Nat → α) : Prop := ∀ j, j < n → f j = g j

/-- Nothing is done yet. -/
theorem AgreeBelow.zero {α : Type} (f g : Nat → α) : AgreeBelow 0 f g := fun j hj => absurd hj j.not_lt_zero

/-- One more element, written with one value in both. -/
theorem AgreeBelow.update {α : Type} {n : Nat} {f g f' g' : Nat → α} {v : α} (h : AgreeBelow n f g)
    (hf : ∀ j, f' j = if j = n then v else f j) (hg : ∀ j, g' j = if j = n then v else g j) :
    AgreeBelow (n + 1) f' g' := by
  intro j hj
  rw [hf, hg]
  split
  · rfl
  · exact h j (by omega)

theorem AgreeBelow.writeWbuf {n : Nat} (h : AgreeBelow n a.wbufAt b.wbufAt) (c : WorkCell) :
    AgreeBelow (n + 1) (a.writeWbuf n c).wbufAt (b.writeWbuf n c).wbufAt :=
  h.update (a.wbufAt_writeWbuf n · c) (b.wbufAt_writeWbuf n · c)

theorem AgreeBelow.writeBmem {n : Nat} (h : AgreeBelow n a.bmemAt b.bmemAt) (c : PixelBit) :
    AgreeBelow (n + 1) (a.writeBmem n c).bmemAt (b.writeBmem n c).bmemAt :=
  h.update (a.bmemAt_writeBmem n · c) (b.bmemAt_writeBmem n · c)

theorem AgreeBelow.writePmem {n : Nat} (h : AgreeBelow n a.pmemAt b.pmemAt) (c : Byte) :
    AgreeBelow (n + 1) (a.writePmem n c).pmemAt (b.writePmem n c).pmemAt :=
  h.update (a.pmemAt_writePmem n · c) (b.pmemAt_writePmem n · c)

/-- What two runs of one command have in common when `p` elements of a phase are done: the phase's input on the
frame, its output so far, and the results of the phases before. -/
def WorkAgrees (a b : State) (p : Nat) : Phase → Prop
  | .seed => AgreeBelow (a.cols * a.rows) a.imemAt b.imemAt ∧ AgreeBelow p a.wbufAt b.wbufAt
  | .diffuse => AgreeBelow (a.cols * a.rows) a.wbufAt b.wbufAt ∧ AgreeBelow p a.bmemAt b.bmemAt
  | .pack =>
    (hasDither a.actcmd = true → AgreeBelow (a.cols * a.rows) a.wbufAt b.wbufAt) ∧
      AgreeBelow (a.cols * a.rows) a.bmemAt b.bmemAt ∧ AgreeBelow p a.pmemAt b.pmemAt
  | .idle =>
    (hasDither a.actcmd = true → AgreeBelow (a.cols * a.rows) a.wbufAt b.wbufAt ∧
      AgreeBelow (a.cols * a.rows) a.bmemAt b.bmemAt) ∧
    (hasPack a.actcmd = true → AgreeBelow (a.rows * ceil8 a.cols) a.pmemAt b.pmemAt)

/-- A target inside the frame has its cell inside the frame (R74). -/
theorem inFrame_index_lt {s : State} {x y : Int} (h : s.inFrame x y = true) :
    (y * s.frameW + x).toNat < s.cols * s.rows := by
  simp only [State.inFrame, Bool.and_eq_true, decide_eq_true_eq] at h
  obtain ⟨⟨⟨hx, hxw⟩, hy⟩, hyh⟩ := h
  lift x to Nat using hx
  lift y to Nat using hy
  have hcols : (s.cols : Int) = s.frameW := Int.toNat_of_nonneg (by omega)
  have hrows : (s.rows : Int) = s.frameH := Int.toNat_of_nonneg (by omega)
  rw [← hcols] at hxw ⊢
  rw [← hrows] at hyh
  have := index_lt (Int.ofNat_lt.mp hxw) (Int.ofNat_lt.mp hyh) (le_refl (s.cols * s.rows))
  exact_mod_cast this

/-- The deposits of a visit read and write cells of the frame only, so frames that agree stay so (R134). -/
theorem depositAll_agrees {x y : Int} {l : List Share} (hw : a.width = b.width) (hh : a.height = b.height)
    (hab : AgreeBelow (a.cols * a.rows) a.wbufAt b.wbufAt)
    (ha : depositAll x y l a = some a') (hb : depositAll x y l b = some b') :
    AgreeBelow (a.cols * a.rows) a'.wbufAt b'.wbufAt := by
  induction l generalizing a b with
  | nil => cases ha; cases hb; exact hab
  | cons e rest ih =>
    obtain ⟨u, hu, hrestu⟩ := Option.bind_eq_some_iff.mp ha
    obtain ⟨v, hv, hrestv⟩ := Option.bind_eq_some_iff.mp hb
    have hin : b.inFrame (x + e.dx) (y + e.dy) = a.inFrame (x + e.dx) (y + e.dy) := by
      simp only [State.inFrame, State.frameW_congr hw, State.frameH_congr hh]
    rcases deposit_cases hu with ⟨hout, rfl⟩ | ⟨hina, c, hc, rfl⟩
    · rcases deposit_cases hv with ⟨-, rfl⟩ | ⟨hinb, -⟩
      · exact ih hw hh hab hrestu hrestv
      · rw [hin, hout] at hinb; cases hinb
    · rcases deposit_cases hv with ⟨hout, -⟩ | ⟨-, d, hd, rfl⟩
      · rw [hin, hina] at hout; cases hout
      · refine ih (a := a.writeWbuf _ c) (b := b.writeWbuf _ d) hw hh (fun j hj => ?_) hrestu hrestv
        rw [State.wbufAt_writeWbuf, State.wbufAt_writeWbuf, hc, hd, ← State.frameW_congr hw,
          hab _ (inFrame_index_lt hina), hab j hj]

/-- A packed byte depends on the frame's bits, its dimensions and the polarity (R161). -/
theorem packedByte_agrees {r x : Nat} (hcols : a.cols = b.cols) (hpol : a.polarity = b.polarity) (hr : r < a.rows)
    (hab : AgreeBelow (a.cols * a.rows) a.bmemAt b.bmemAt) : packedByte a r x = packedByte b r x := by
  have hbit : ∀ px, packedBit a r px = packedBit b r px := by
    intro px
    unfold packedBit
    rw [← hcols, ← hpol]
    split
    · rename_i hpx; rw [hab _ (index_lt hpx hr le_rfl)]
    · rfl
  simp only [packedByte, hbit]

/-- Outside PACK the place of the scan is the cursor's linear index, and that of a cell of the frame (R74). -/
theorem cursorIndex_scan {s : State} (hr : s.engineReady = true) (hp : s.phase ≠ .pack) :
    s.cursorIndex = s.scanPos ∧ s.cursorIndex < s.cols * s.rows := by
  obtain ⟨-, hx, hy, -⟩ := s.engineReady_iff.mp hr
  have hlimit : s.limit = s.cols := by unfold State.limit; cases hq : s.phase <;> simp_all
  rw [State.scanPos, hlimit]
  rw [hlimit] at hx
  exact ⟨rfl, index_lt hx hy le_rfl⟩

/-- The work of one step, done in both runs: one more element agrees. -/
theorem phaseWork_agrees (h : SameControl a b) (hs : a.Running) (hab : WorkAgrees a b a.scanPos a.phase)
    (ha : phaseWork a = some a') (hb : phaseWork b = some b') : WorkAgrees a' b' (a.scanPos + 1) a.phase := by
  have hmethod : a.method = b.method := congrArg methodOf h.actcmd
  unfold phaseWork at ha hb
  rw [← h.phase] at hb
  cases hp : a.phase with
  | idle => rw [hp] at ha; cases ha
  | seed =>
    rw [hp] at ha hb hab
    cases ha; cases hb
    obtain ⟨himem, hwbuf⟩ := hab
    obtain ⟨hpos, hlt⟩ := cursorIndex_scan hs.ready (by simp [hp])
    rw [← h.cursorIndex, ← hmethod, ← himem _ hlt, hpos]
    exact ⟨himem, hwbuf.writeWbuf _⟩
  | diffuse =>
    rw [hp] at ha hb hab
    obtain ⟨hwbuf, hbmem⟩ := hab
    obtain ⟨hpos, hlt⟩ := cursorIndex_scan hs.ready (by simp [hp])
    rw [hpos] at hlt
    simp only [← h.x, ← h.y, ← h.cursorIndex, ← hmethod, hpos, ← hwbuf _ hlt] at ha hb
    have hbits := hbmem.writeBmem (decision (a.wbufAt a.scanPos))
    have hcells := depositAll_agrees (a := a.writeBmem _ _) (b := b.writeBmem _ _) h.width h.height hwbuf ha hb
    obtain ⟨_, rfl⟩ := depositAll_frame ha
    obtain ⟨_, rfl⟩ := depositAll_frame hb
    exact ⟨hcells, hbits⟩
  | pack =>
    rw [hp] at ha hb hab
    cases ha; cases hb
    obtain ⟨hwbuf, hbmem, hpmem⟩ := hab
    have hy := (a.engineReady_iff.mp hs.ready).2.2.1
    have hpos : a.y * a.stride.toNat + a.x = a.scanPos := by simp [State.scanPos, State.limit, hp]
    have hbyte := packedByte_agrees (x := a.x) h.cols (congrArg polarityOf h.actcmd) hy hbmem
    rw [← h.x, ← h.y, ← h.stride (hs.packs hp), ← hbyte, hpos]
    exact ⟨hwbuf, hbmem, hpmem.writePmem _⟩

/-- A finished phase's results are the next one's input. -/
theorem WorkAgrees.phaseEnd (hs : a.Running) (hp : a.phase ≠ .idle) (hab : WorkAgrees a b a.scanLen a.phase) :
    WorkAgrees (phaseEnd a) (phaseEnd b) 0 a.nextPhase := by
  have hcells : ∀ t, (Machine.phaseEnd t).wbufAt = t.wbufAt := fun t => funext (wbufAt_phaseEnd t)
  have hbits : ∀ t, (Machine.phaseEnd t).bmemAt = t.bmemAt := fun t => funext (bmemAt_phaseEnd t)
  have hbytes : ∀ t, (Machine.phaseEnd t).pmemAt = t.pmemAt := fun t => funext (pmemAt_phaseEnd t)
  unfold State.nextPhase
  cases hq : a.phase with
  | idle => exact absurd hq hp
  | seed =>
    rw [hq] at hab
    have hlen : a.scanLen = a.cols * a.rows := by simp [State.scanLen, State.limit, hq, Nat.mul_comm]
    obtain ⟨-, hwbuf⟩ := hab
    rw [hlen] at hwbuf
    refine ⟨?_, AgreeBelow.zero _ _⟩
    rw [cols_phaseEnd, rows_phaseEnd, hcells, hcells]
    exact hwbuf
  | diffuse =>
    rw [hq] at hab
    have hlen : a.scanLen = a.cols * a.rows := by simp [State.scanLen, State.limit, hq, Nat.mul_comm]
    obtain ⟨hwbuf, hbmem⟩ := hab
    rw [hlen] at hbmem
    cases hk : hasPack a.actcmd with
    | true =>
      simp only [WorkAgrees, if_true, cols_phaseEnd, rows_phaseEnd, hcells, hbits]
      exact ⟨fun _ => hwbuf, hbmem, AgreeBelow.zero _ _⟩
    | false =>
      simp only [WorkAgrees, Bool.false_eq_true, if_false, cols_phaseEnd, rows_phaseEnd,
        phaseEnd_actcmd, hcells, hbits, hk]
      exact ⟨fun _ => ⟨hwbuf, hbmem⟩, fun hf => nomatch hf⟩
  | pack =>
    rw [hq] at hab
    have hlen : a.scanLen = a.rows * ceil8 a.cols := by
      simp [State.scanLen, State.limit, hq, hs.stride (hs.packs hq)]
    obtain ⟨hwbuf, hbmem, hpmem⟩ := hab
    rw [hlen] at hpmem
    simp only [WorkAgrees, cols_phaseEnd, rows_phaseEnd, phaseEnd_actcmd, hcells, hbits, hbytes]
    exact ⟨fun hd => ⟨hwbuf hd, hbmem⟩, fun _ => hpmem⟩

/-! ### Two runs side by side: the runs -/

/-- Two states in step with each other on one command. -/
structure Lockstep (a b : State) : Prop where
  control : SameControl a b
  work : WorkAgrees a b a.scanPos a.phase

/-- One step of each keeps them in step. -/
theorem Lockstep.engineStep (h : Lockstep a b) (hbusy : a.busyOk = true) (hrun : a.runningOk = true)
    (ha : engineStep a = .next a') (hb : engineStep b = .next b') : Lockstep a' b' := by
  obtain ⟨hc, hw⟩ := h
  cases hab : a.busy with
  | false =>
    rw [engineStep_idle hab] at ha
    rw [engineStep_idle (hc.busy ▸ hab)] at hb
    cases ha; cases hb
    exact ⟨hc, hw⟩
  | true =>
    have hphase := (a.busyOk_iff.mp hbusy).mp hab
    have hs := a.runningOk_iff.mp hrun hab
    have hlimit := hc.limit hs.packs
    have hpos : a.scanPos = b.scanPos := by rw [State.scanPos, State.scanPos, hlimit, hc.x, hc.y]
    have hlen : a.scanLen = b.scanLen := by rw [State.scanLen, State.scanLen, hlimit, hc.rows]
    obtain ⟨-, u, hu, ha⟩ := engineStep_busy_cases hab ha
    obtain ⟨-, v, hv, hb⟩ := engineStep_busy_cases (hc.busy ▸ hab) hb
    have hc' := hc.phaseWork hu hv
    have hw' := phaseWork_agrees hc hs hw hu hv
    obtain ⟨-, -, -, -, hup, hub⟩ := phaseWork_control hu
    rcases ha with ⟨hlt, rfl, hp', -⟩ | ⟨hlast, rfl⟩
    · rcases hb with ⟨-, rfl, -⟩ | ⟨hlast, -⟩
      · rw [← hlimit]
        refine ⟨hc'.advance _, ?_⟩
        rw [hp', State.advance_frame, State.advance_frame v, State.phase_setCursor, hup]
        exact hw'
      · omega
    · rcases hb with ⟨hlt, -⟩ | ⟨-, rfl⟩
      · omega
      · refine ⟨hc'.phaseEnd (hub.trans hab) (hup ▸ hphase), ?_⟩
        rw [scanPos_phaseEnd, phase_phaseEnd]
        obtain ⟨_, _, _, rfl⟩ := phaseWork_frame hu
        exact WorkAgrees.phaseEnd ⟨hs.ready, hs.packs, hs.dithers, hs.stride, hs.plen⟩ hphase (hlast ▸ hw')

/-- So do several. -/
theorem Lockstep.engineRun {k : Nat} (h : Lockstep a b) (hbusy : a.busyOk = true) (hrun : a.runningOk = true)
    (ha : engineRun k a = .next a') (hb : engineRun k b = .next b') : Lockstep a' b' := by
  induction k generalizing a b with
  | zero => cases ha; cases hb; exact h
  | succ k ih =>
    obtain ⟨u, hu, hua⟩ := engineRun_succ ha
    obtain ⟨v, hv, hvb⟩ := engineRun_succ hb
    obtain ⟨hbusy', hrun'⟩ := engineStep_keeps_control hbusy hrun hu
    exact ih (h.engineStep hbusy hrun hu hv) hbusy' hrun' hua hvb

/-- Acceptance puts two frames in step that agree on the command's input. -/
theorem Lockstep.begin_of_inputs {w : Word} (hw : a.width = b.width) (hh : a.height = b.height)
    (himem : hasDither w = true → AgreeBelow (a.cols * a.rows) a.imemAt b.imemAt)
    (hbmem : hasDither w = false → AgreeBelow (a.cols * a.rows) a.bmemAt b.bmemAt) :
    Lockstep (a.begin w) (b.begin w) := by
  have hcodes : ∀ t, (State.begin w t).imemAt = t.imemAt := fun t => funext (t.imemAt_begin w)
  have hbits : ∀ t, (State.begin w t).bmemAt = t.bmemAt := fun t => funext (t.bmemAt_begin w)
  refine ⟨SameControl.begin_of_dims hw hh w, ?_⟩
  rw [State.scanPos_begin, State.phase_begin]
  cases hd : hasDither w with
  | true =>
    simp only [if_true, WorkAgrees, State.cols_begin, State.rows_begin, hcodes]
    exact ⟨himem hd, AgreeBelow.zero _ _⟩
  | false =>
    simp only [Bool.false_eq_true, if_false, WorkAgrees, State.cols_begin, State.rows_begin, State.begin_actcmd, hbits]
    exact ⟨fun hf => (nomatch hd.symm.trans hf), hbmem hd, AgreeBelow.zero _ _⟩

/-- The engine writes neither the frame nor the command nor PLEN. -/
theorem engineRun_latched {s t : State} {k : Nat} (h : Machine.engineRun k s = .next t) :
    t.cols = s.cols ∧ t.rows = s.rows ∧ t.actcmd = s.actcmd ∧ t.plen = s.plen := by
  obtain ⟨_, _, _, _, _, _, rfl⟩ := engineRun_frame h
  exact ⟨rfl, rfl, rfl, rfl⟩

/-- Settles O45: the two runs stay in step, and after the command's steps both are idle with all results in common. -/
theorem resultDependsOnItsInputsOnly : Obligations.ResultDependsOnItsInputsOnly := by
  intro a b ua ub ta tb i n hi hba hbb hla hlb hw hh himem hbmem hn hua hub hta htb
  rw [exec_staged hi hba hla] at hua
  rw [exec_staged hi hbb hlb] at hub
  cases hua; cases hub
  have hstage := hasStage_of_staged hi
  obtain ⟨hbusy, hrun⟩ := begin_control hla hstage
  obtain ⟨hc, hwork⟩ := (Lockstep.begin_of_inputs hw hh himem hbmem).engineRun hbusy hrun hta htb
  obtain ⟨htbusy, htrun, hleft⟩ := engineRun_control hbusy hrun hta
  rw [stepsLeft_begin hla hstage, hn, Nat.sub_self] at hleft
  have hidle : ta.busy = false := by
    by_contra hbusy
    exact (stepsLeft_pos htrun (by simpa using hbusy)).ne' hleft
  have hphase : ta.phase = .idle := by
    by_contra hp
    have := (ta.busyOk_iff.mp htbusy).mpr hp
    rw [hidle] at this; cases this
  rw [hphase] at hwork
  obtain ⟨hdither, hpack⟩ := hwork
  obtain ⟨hcols, hrows, hactcmd, hplena⟩ := engineRun_latched hta
  obtain ⟨-, -, -, hplenb⟩ := engineRun_latched htb
  rw [hactcmd, hcols, hrows, State.cols_begin, State.rows_begin, State.begin_actcmd] at hdither hpack
  refine ⟨fun hd j hj => ⟨(hdither hd).1 j hj, (hdither hd).2 j hj⟩, fun hk => ⟨?_, ?_, ?_⟩⟩
  · exact hc.stride (by rw [hactcmd, State.begin_actcmd]; exact hk)
  · apply BitVec.eq_of_toNat_eq
    rw [hplena, hplenb, plen_begin hla hk, plen_begin hlb hk, State.cols_congr hw, State.rows_congr hh]
  · rw [hplena, plen_begin hla hk]
    exact hpack hk

end Sys2Proof.Machine

/-! ## What the invariant rests on (spec/10_state.md R27, R28, R49) -/

namespace Sys2Proof.Machine

/-! ### The reserved bits of STATUS and IEN (R27, R28, R39) -/

section Reserved

variable (s : State)

theorem State.reservedOk_iff :
    s.reservedOk = true ↔ s.status &&& ~~~Config.statusMask = 0#32 ∧ s.ien &&& ~~~Config.flagMask = 0#32 := by
  simp [State.reservedOk]

/-- A defined bit of STATUS written: no reserved bit is touched (R39). -/
theorem reserved_withBit (w : Word) {i : Nat} (b : Bool) (hi : i ∈ [0, 1, 2, 3, 8, 9, 10, 11]) :
    withBit w i b &&& ~~~Config.statusMask = w &&& ~~~Config.statusMask := by
  have hdefined : ∀ j ∈ [0, 1, 2, 3, 8, 9, 10, 11], j < 32 ∧ (~~~Config.statusMask).getLsbD j = false := by decide
  obtain ⟨hlt, hmask⟩ := hdefined i hi
  exact withBit_and_of_mask w b hlt hmask

@[simp] theorem State.reservedOk_setBusy (b : Bool) : (s.setBusy b).reservedOk = s.reservedOk := by
  simp only [State.reservedOk, State.setBusy_status, State.setBusy_ien,
    reserved_withBit s.status (i := 0) b (by decide)]

@[simp] theorem State.reservedOk_setDone (b : Bool) : (s.setDone b).reservedOk = s.reservedOk := by
  simp only [State.reservedOk, State.setDone_status, State.setDone_ien,
    reserved_withBit s.status (i := 1) b (by decide)]

@[simp] theorem State.reservedOk_setPhase (p : Phase) : (s.setPhase p).reservedOk = s.reservedOk := by
  simp only [State.reservedOk, State.setPhase_status, State.setPhase_ien,
    reserved_withBit (withBit s.status 2 p.lo) (i := 3) p.hi (by decide),
    reserved_withBit s.status (i := 2) p.lo (by decide)]

@[simp] theorem State.reservedOk_raise (k : ErrKind) (info : ErrInfo) :
    (s.raise k info).reservedOk = s.reservedOk := by
  have hcode : k.code ∈ [0, 1, 2, 3, 8, 9, 10, 11] := by cases k <;> decide
  simp only [State.reservedOk, State.raise_status, State.raise_ien, reserved_withBit s.status true hcode]

@[simp] theorem State.reservedOk_setCursor (x y : Word) : (s.setCursor x y).reservedOk = s.reservedOk := rfl
@[simp] theorem State.reservedOk_setActcmd (w : Word) : (s.setActcmd w).reservedOk = s.reservedOk := rfl
@[simp] theorem State.reservedOk_latchPack : s.latchPack.reservedOk = s.reservedOk := rfl

@[simp] theorem State.reservedOk_begin (w : Word) : (s.begin w).reservedOk = s.reservedOk := by
  unfold State.begin; cases hasPack w <;> simp

@[simp] theorem reservedOk_phaseEnd : (phaseEnd s).reservedOk = s.reservedOk := by
  rcases phaseEnd_cases s with ⟨-, h⟩ | ⟨-, -, h⟩ | ⟨-, -, h⟩ | ⟨-, h⟩ | ⟨-, h⟩ <;> rw [h] <;> simp [complete]

variable {s}

/-- The host's return only clears bits (R230). -/
theorem State.reservedOk_acknowledge (d : Word) (h : s.reservedOk = true) :
    (s.acknowledge d).reservedOk = true := by
  obtain ⟨hst, hien⟩ := s.reservedOk_iff.mp h
  refine (State.reservedOk_iff _).mpr ⟨?_, hien⟩
  rw [State.acknowledge_status, BitVec.and_assoc, BitVec.and_comm (~~~(d &&& Config.flagMask)), ← BitVec.and_assoc,
    hst, BitVec.zero_and]

/-- A write of IEN stores enable bits only (R28). -/
theorem State.reservedOk_ien (d : Word) (h : s.reservedOk = true) :
    State.reservedOk { s with ien := d &&& Config.flagMask } = true := by
  refine (State.reservedOk_iff _).mpr ⟨(s.reservedOk_iff.mp h).1, ?_⟩
  change d &&& Config.flagMask &&& ~~~Config.flagMask = 0#32
  rw [BitVec.and_assoc, BitVec.and_not_self]; exact BitVec.and_zero

end Reserved

/-! ### The checks of the invariant, by name -/

/-- The invariant as a structure: each check of `State.inv` under its own name. -/
structure State.Inv (s : State) : Prop where
  reserved : s.reservedOk = true
  busyPhase : s.busyOk = true
  idle : s.idleOk = true
  actcmd : s.actcmdOk = true
  running : s.runningOk = true
  plen : s.plenOk = true
  memories : s.memoriesOk = true

theorem State.inv_iff (s : State) : s.inv = true ↔ s.Inv := by
  simp only [State.inv, Bool.and_eq_true]
  constructor
  · rintro ⟨⟨⟨⟨⟨⟨hres, hbusy⟩, hidle⟩, hact⟩, hrun⟩, hplen⟩, hmem⟩
    exact ⟨hres, hbusy, hidle, hact, hrun, hplen, hmem⟩
  · rintro ⟨hres, hbusy, hidle, hact, hrun, hplen, hmem⟩
    exact ⟨⟨⟨⟨⟨⟨hres, hbusy⟩, hidle⟩, hact⟩, hrun⟩, hplen⟩, hmem⟩

variable {s t u : State}

/-- An idle block's cursor is at the origin (R24). -/
theorem State.idleOk_iff (s : State) : s.idleOk = true ↔ (s.busy = false → s.curx = 0#32 ∧ s.cury = 0#32) := by
  unfold State.idleOk; cases s.busy <;> simp

/-- The four memories, each in canonical form below the capacity. -/
theorem State.memoriesOk_iff (s : State) : s.memoriesOk = true ↔
    s.imem.wf s.maxpix = true ∧ s.wbuf.wf s.maxpix = true ∧ s.bmem.wf s.maxpix = true ∧
      s.pmem.wf s.maxpix = true := by
  simp [State.memoriesOk, and_assoc]

/-- An idle state's invariant: nothing to say of a running command. -/
theorem State.Inv.of_idle (hb : s.busy = false) (hp : s.phase = .idle) (hres : s.reservedOk = true)
    (hx : s.curx = 0#32) (hy : s.cury = 0#32) (hact : s.actcmdOk = true) (hplen : s.plenOk = true)
    (hmem : s.memoriesOk = true) : s.Inv where
  reserved := hres
  busyPhase := s.busyOk_iff.mpr (by simp [hb, hp])
  idle := s.idleOk_iff.mpr fun _ => ⟨hx, hy⟩
  actcmd := hact
  running := s.runningOk_iff.mpr fun h => absurd (hb.symm.trans h) (by decide)
  plen := hplen
  memories := hmem

/-- An idle state satisfying the invariant, in full: PHASE is IDLE and the cursor at the origin. -/
theorem State.Inv.idle_origin (hs : s.Inv) (hb : s.busy = false) :
    s.phase = .idle ∧ s.curx = 0#32 ∧ s.cury = 0#32 := by
  refine ⟨?_, s.idleOk_iff.mp hs.idle hb⟩
  by_contra hp
  exact absurd (hb.symm.trans ((s.busyOk_iff.mp hs.busyPhase).mpr hp)) (by decide)

/-- Whatever keeps the engine's view and the reserved bits keeps the invariant: no other check reads what the
host may change while a command runs (R70). -/
theorem State.Inv.of_engineView (hs : s.Inv) (hv : t.engineView = s.engineView) (hres : t.reservedOk = true) :
    t.Inv := by
  have hbusy : t.busy = s.busy := State.busy_congr hv
  have hphase : t.phase = s.phase := by rw [← t.phase_engineView, hv, s.phase_engineView]
  have hready : t.engineReady = s.engineReady := by rw [← t.engineReady_engineView, hv, s.engineReady_engineView]
  have hx : t.curx = s.curx := (congrArg State.curx hv :)
  have hy : t.cury = s.cury := (congrArg State.cury hv :)
  have hact : t.actcmd = s.actcmd := (congrArg State.actcmd hv :)
  have hstride : t.stride = s.stride := (congrArg State.stride hv :)
  have hplen : t.plen = s.plen := (congrArg State.plen hv :)
  have hcols : t.cols = s.cols := (congrArg State.cols hv :)
  have hrows : t.rows = s.rows := (congrArg State.rows hv :)
  exact {
    reserved := hres
    busyPhase := by unfold State.busyOk; rw [hbusy, hphase]; exact hs.busyPhase
    idle := by unfold State.idleOk; rw [hbusy, hx, hy]; exact hs.idle
    actcmd := by unfold State.actcmdOk; rw [hact]; exact hs.actcmd
    running := by
      unfold State.runningOk
      rw [hbusy, hready, hphase, hact, hstride, hplen, hcols, hrows]; exact hs.running
    plen := (congrArg State.plenOk hv).trans hs.plen
    memories := (congrArg State.memoriesOk hv).trans hs.memories }

end Sys2Proof.Machine

/-! ## The host's transactions keep the invariant (spec/10_state.md R49, spec/20_memory.md R61 to R70) -/

namespace Sys2Proof.Machine

variable {s t u : State}

/-- A refusal keeps the invariant (R220). -/
theorem State.Inv.raise (hs : s.Inv) (k : ErrKind) (info : ErrInfo) : (s.raise k info).Inv :=
  hs.of_engineView (s.engineView_raise k info) ((s.reservedOk_raise k info).trans hs.reserved)

/-- So does the response of a transaction. -/
theorem State.Inv.setReply (hs : s.Inv) (r : BusReply) : (s.setReply r).Inv :=
  hs.of_engineView rfl hs.reserved

/-- So does the host's return from a refusal (R230). -/
theorem State.Inv.acknowledge (hs : s.Inv) (d : Word) : (s.acknowledge d).Inv :=
  hs.of_engineView (s.engineView_acknowledge d) (State.reservedOk_acknowledge d hs.reserved)

/-- A read keeps the invariant, answered or refused (R61). -/
theorem State.Inv.hostRead (hs : s.Inv) (addr : BusAddr) : (hostRead addr s).Inv := by
  rcases hostRead_cases addr s with ⟨data, h⟩ | ⟨-, h⟩ | ⟨-, h⟩ <;> rw [h]
  · exact hs.setReply _
  · exact (hs.raise _ _).setReply _
  · exact (hs.raise _ _).setReply _

/-- The write of an operand while idle, its index in range, keeps the invariant (R67, R70). -/
theorem State.Inv.withOperands (hs : s.Inv) (hb : s.busy = false) (w h : Word) {im : Memory 8} {bm : Memory 1}
    (him : im.wf s.maxpix = true) (hbm : bm.wf s.maxpix = true) : (s.withOperands w h im bm).Inv := by
  obtain ⟨hp, hx, hy⟩ := hs.idle_origin hb
  obtain ⟨-, hwbuf, -, hpmem⟩ := s.memoriesOk_iff.mp hs.memories
  exact State.Inv.of_idle hb hp hs.reserved hx hy hs.actcmd hs.plen
    ((State.memoriesOk_iff _).mpr ⟨him, hwbuf, hbm, hpmem⟩)

/-- A locked write keeps the invariant if what it does while idle does (R70). -/
theorem State.Inv.lockedWrite (hs : s.Inv) (addr : BusAddr) (hu : s.busy = false → u.Inv) :
    (lockedWrite addr u s).Inv := by
  rcases lockedWrite_cases addr u s with ⟨-, h⟩ | ⟨hb, h⟩ <;> rw [h]
  · exact (hs.raise _ _).setReply _
  · exact (hu hb).setReply _

/-- The registers cleared: the invariant holds whatever they held before (R48, R179). -/
theorem State.Inv.clearRegisters (hmem : s.memoriesOk = true) : s.clearRegisters.Inv :=
  State.Inv.of_idle s.busy_clearRegisters s.phase_clearRegisters
    ((State.reservedOk_iff _).mpr ⟨BitVec.zero_and, BitVec.zero_and⟩) rfl rfl rfl (by simp [State.plenOk]) hmem

/-- Acceptance of a command with a stage on a legal frame (R176). -/
theorem State.Inv.begin (hs : s.Inv) (hl : s.frameLegal = true) {i : Instr} (hi : i ∈ stagedInstrs) :
    (s.begin (encode i)).Inv := by
  obtain ⟨hbusy, hrun⟩ := begin_control hl (hasStage_of_staged hi)
  obtain ⟨-, -, -, -, hcap⟩ := s.frameLegal_nat hl
  have haccepted : ∀ j ∈ stagedInstrs,
      (encode j == encode .nop || stagedInstrs.any fun k => encode j == encode k) = true := by decide
  have hmaxpix : (s.begin (encode i)).maxpix = s.maxpix := by rw [State.begin_eq]; rfl
  have hbitmap : s.rows * ceil8 s.cols ≤ s.maxpix :=
    calc s.rows * ceil8 s.cols ≤ s.rows * s.cols := Nat.mul_le_mul_left _ (ceil8_le _)
      _ = s.cols * s.rows := Nat.mul_comm _ _
      _ ≤ s.maxpix := hcap
  have hplen : (s.begin (encode i)).plen.toNat ≤ s.maxpix := by
    cases hk : hasPack (encode i) with
    | true => rw [plen_begin hl hk]; exact hbitmap
    | false => rw [State.begin_eq, hk]; exact of_decide_eq_true hs.plen
  exact {
    reserved := (s.reservedOk_begin _).trans hs.reserved
    busyPhase := hbusy
    idle := by simp [State.idleOk]
    actcmd := by rw [State.actcmdOk, State.begin_actcmd]; exact haccepted i hi
    running := hrun
    plen := decide_eq_true (hmaxpix ▸ hplen)
    memories := by rw [State.begin_eq]; exact hs.memories }

/-- Each command keeps the invariant in the transaction that writes its word (R175 to R179). -/
theorem State.Inv.exec (hs : s.Inv) {i : Instr} (h : exec i s = .next t) : t.Inv := by
  rcases exec_cases h with ⟨k, rfl⟩ | ⟨rfl, hb, rfl⟩ | ⟨hi, -, hl, rfl⟩ | ⟨-, rfl⟩
  · exact hs.raise _ _
  · obtain ⟨hp, hx, hy⟩ := hs.idle_origin hb
    exact State.Inv.of_idle (by simpa using hb) (by simpa using hp) (by simpa using hs.reserved) hx hy rfl
      hs.plen hs.memories
  · exact hs.begin hl hi
  · exact State.Inv.clearRegisters hs.memories

/-- So does every word written to CMD, legal or not (R175). -/
theorem State.Inv.command (hs : s.Inv) {w : Word} (h : command w s = .next t) : t.Inv := by
  unfold Machine.command at h
  split at h
  · exact hs.exec h
  · cases h
    unfold illegalCommand
    split <;> exact hs.raise _ _

/-- Every write of a register keeps the invariant (R66). -/
theorem State.Inv.regWrite (hs : s.Inv) {r : Reg} {addr : BusAddr} {data : Word}
    (h : regWrite r addr data s = .next t) : t.Inv := by
  obtain ⟨himem, -, hbmem, -⟩ := s.memoriesOk_iff.mp hs.memories
  cases r
  case cmd =>
    obtain ⟨u, hu, rfl⟩ := mapNext_eq_next h
    exact (hs.command hu).setReply _
  case status => cases h; exact (hs.acknowledge data).setReply _
  case ien => cases h; exact hs.of_engineView rfl (State.reservedOk_ien (s := s) data hs.reserved)
  case width => cases h; exact hs.lockedWrite addr fun hb => hs.withOperands hb data s.height himem hbmem
  case height => cases h; exact hs.lockedWrite addr fun hb => hs.withOperands hb s.width data himem hbmem
  case cscin => cases h; exact hs.of_engineView rfl hs.reserved
  all_goals cases h; exact hs.setReply _

/-- An address of the IMEM or BMEM window names an element below the capacity (R63, R64). -/
theorem addrTarget_lt {m : Nat} {addr : BusAddr} {i : Nat}
    (h : addrTarget m addr = some (.imem i) ∨ addrTarget m addr = some (.bmem i)) : i < m := by
  unfold addrTarget at h
  split at h
  · simp at h
  · simp only at h
    split at h
    case h_2 | h_3 =>
      split at h
      · rename_i hlt
        rcases h with h | h <;> cases h
        exact hlt
      · simp at h
    all_goals simp at h

/-- Every write transaction keeps the invariant (R62, R66 to R70). -/
theorem State.Inv.hostWrite (hs : s.Inv) {addr : BusAddr} {data : Word} (h : hostWrite addr data s = .next t) :
    t.Inv := by
  obtain ⟨himem, -, hbmem, -⟩ := s.memoriesOk_iff.mp hs.memories
  unfold Machine.hostWrite at h
  split at h
  · cases h; exact (hs.raise _ _).setReply _
  · exact hs.regWrite h
  · rename_i hi
    cases h
    exact hs.lockedWrite addr fun hb =>
      hs.withOperands hb s.width s.height (Memory.wf_insert _ himem (addrTarget_lt (.inl hi))) hbmem
  · rename_i hi
    cases h
    exact hs.lockedWrite addr fun hb =>
      hs.withOperands hb s.width s.height himem (Memory.wf_insert _ hbmem (addrTarget_lt (.inr hi)))
  · cases h; exact hs.lockedWrite addr fun _ => hs
  · cases h; exact hs.lockedWrite addr fun _ => hs

end Sys2Proof.Machine

/-! ## The engine's steps, and every step, keep the invariant (spec/10_state.md R49, spec/43_control.md R180) -/

namespace Sys2Proof.Machine

variable {s t u : State}

/-- Deposits write cells of the frame only, so WBUF stays in canonical form (R134). -/
theorem depositAll_wbuf_wf {cap : Nat} {x y : Int} {l : List Share} (hcap : s.cols * s.rows ≤ cap)
    (hwf : s.wbuf.wf cap = true) (h : depositAll x y l s = some t) : t.wbuf.wf cap = true := by
  induction l generalizing s with
  | nil => cases h; exact hwf
  | cons a rest ih =>
    obtain ⟨u, hu, hrest⟩ := Option.bind_eq_some_iff.mp h
    rcases deposit_cases hu with ⟨-, rfl⟩ | ⟨hin, c, -, rfl⟩
    · exact ih hcap hwf hrest
    · exact ih (s := s.writeWbuf _ c) hcap
        (Memory.wf_insert c hwf ((inFrame_index_lt hin).trans_le hcap)) hrest

/-- The work of a step writes below the capacity, so the memories stay in canonical form (R74). -/
theorem phaseWork_memoriesOk (hr : s.engineReady = true) (hmem : s.memoriesOk = true) (h : phaseWork s = some u) :
    u.memoriesOk = true := by
  obtain ⟨-, -, -, -, hcap, hx, hy, hstride⟩ := s.engineReady_nat hr
  obtain ⟨himem, hwbuf, hbmem, hpmem⟩ := s.memoriesOk_iff.mp hmem
  unfold phaseWork at h
  cases hp : s.phase with
  | idle => rw [hp] at h; cases h
  | seed =>
    rw [hp] at h
    obtain ⟨-, hlt⟩ := cursorIndex_scan hr (by simp [hp])
    cases h
    exact (State.memoriesOk_iff _).mpr ⟨himem, Memory.wf_insert _ hwbuf (hlt.trans_le hcap), hbmem, hpmem⟩
  | diffuse =>
    rw [hp] at h
    obtain ⟨-, hlt⟩ := cursorIndex_scan hr (by simp [hp])
    have hcells := depositAll_wbuf_wf (s := s.writeBmem _ _) hcap hwbuf h
    obtain ⟨m, rfl⟩ := depositAll_frame h
    exact (State.memoriesOk_iff _).mpr ⟨himem, hcells, Memory.wf_insert _ hbmem (hlt.trans_le hcap), hpmem⟩
  | pack =>
    rw [hp] at h
    have hlimit : s.limit = s.stride.toNat := by simp [State.limit, hp]
    have hbitmap : s.stride.toNat * s.rows ≤ s.maxpix := by
      rw [hstride hp]; exact (Nat.mul_le_mul_right _ (ceil8_le _)).trans hcap
    cases h
    exact (State.memoriesOk_iff _).mpr
      ⟨himem, hwbuf, hbmem, Memory.wf_insert _ hpmem (index_lt (hlimit ▸ hx) hy hbitmap)⟩

/-- An engine step keeps the memories and the reserved bits, and a step that ends the command leaves the cursor at
the origin (R181). -/
theorem engineStep_keeps_data (hb : s.busy = true) (hres : s.reservedOk = true) (hmem : s.memoriesOk = true)
    (h : engineStep s = .next t) : t.reservedOk = true ∧ t.idleOk = true ∧ t.memoriesOk = true := by
  obtain ⟨hr, u, hu, ht⟩ := engineStep_busy_cases hb h
  have hmem' := phaseWork_memoriesOk hr hmem hu
  obtain ⟨_, _, _, rfl⟩ := phaseWork_frame hu
  rcases ht with ⟨-, rfl, -⟩ | ⟨-, rfl⟩
  · rw [State.advance_frame]
    exact ⟨hres, (State.idleOk_iff _).mpr fun hidle => absurd (hb.symm.trans hidle) (by decide), hmem'⟩
  · refine ⟨(reservedOk_phaseEnd _).trans hres, (State.idleOk_iff _).mpr fun _ => ⟨by simp, by simp⟩, ?_⟩
    rw [phaseEnd_frame]; exact hmem'

/-- The engine keeps the invariant (R180). -/
theorem State.Inv.engineStep (hs : s.Inv) (h : engineStep s = .next t) : t.Inv := by
  cases hb : s.busy with
  | false => rw [engineStep_idle hb] at h; cases h; exact hs
  | true =>
    obtain ⟨hbusy, hrun⟩ := engineStep_keeps_control hs.busyPhase hs.running h
    obtain ⟨hres, hidle, hmem⟩ := engineStep_keeps_data hb hs.reserved hs.memories h
    obtain ⟨_, _, _, _, _, _, rfl⟩ := engineStep_frame h
    exact ⟨hres, hbusy, hidle, hs.actcmd, hrun, hs.plen, hmem⟩

/-- The platform's Reset frees every memory element and clears the registers (R250). -/
theorem State.Inv.hardReset (s : State) : (hardReset s).Inv :=
  State.Inv.clearRegisters (s := { s with imem := [], wbuf := [], bmem := [], pmem := [], epoch := s.epoch + 1 }) rfl

/-- The events to come are in no check of the invariant (assumption log 3). -/
theorem State.Inv.withPending (hs : s.Inv) (l : List Event) : State.Inv { s with pending := l } :=
  hs.of_engineView rfl hs.reserved

/-- Each event keeps the invariant (R12, R60, R250). -/
theorem State.Inv.runEvent (hs : s.Inv) {e : Event} (h : runEvent e s = .next t) : t.Inv := by
  cases e with
  | hostRead addr => cases h; exact hs.hostRead addr
  | hostWrite addr data => exact hs.hostWrite h
  | platformReset => cases h; exact State.Inv.hardReset s
  | engineTurn => exact hs.engineStep h
  | wait =>
    simp only [Machine.runEvent] at h
    split at h
    · obtain ⟨u, hu, rfl⟩ := mapNext_eq_next h
      exact (hs.engineStep hu).withPending _
    · cases h; exact hs.hostRead _

/-- Each step keeps the invariant, whatever comes next: an event, or the engine's step (R12). -/
theorem State.Inv.step (hs : s.Inv) (h : step s = .next t) : t.Inv := by
  cases hp : s.pending with
  | nil => rw [step_nil hp] at h; exact hs.engineStep h
  | cons e rest => rw [step_cons hp] at h; exact (hs.withPending rest).runEvent h

/-- Settles O50: by the first pending event, each of which keeps the invariant, or by the engine's step. -/
theorem everyStepKeepsTheInvariant : Obligations.EveryStepKeepsTheInvariant :=
  fun s t hs h => t.inv_iff.mpr ((s.inv_iff.mp hs).step h)

/-- Settles O49: the registers are clear and no memory element is listed. -/
theorem resetSatisfiesTheInvariant : Obligations.ResetSatisfiesTheInvariant :=
  fun q l => (State.inv_iff _).mpr
    (State.Inv.clearRegisters (s := { State.reset with capQuads := q, pending := l }) rfl)

end Sys2Proof.Machine

/-! ## Writes of registers, the interrupt line and reset (spec/10_state.md R25 to R28, R46, R48) -/

namespace Sys2Proof.Machine

/-- A write at a register's address is the write of that register, in every state (R63, R66). -/
theorem hostWrite_regAddr (r : Reg) (d : Word) (s : State) :
    hostWrite (regAddr r) d s = regWrite r (regAddr r) d s := by
  unfold hostWrite; rw [addrTarget_regAddr]

/-- The flag bits, which are the enable bits too (R27, R28). -/
theorem getLsbD_flagMask (i : Nat) : Config.flagMask.getLsbD i = [1, 8, 9, 10, 11].contains i := by
  have hbits : ∀ j, j < 32 → Config.flagMask.getLsbD j = [1, 8, 9, 10, 11].contains j := by decide
  rcases Nat.lt_or_ge i 32 with hi | hi
  · exact hbits i hi
  · rw [BitVec.getLsbD_of_ge _ i hi]
    simp only [List.contains_cons, List.contains_nil, Bool.or_false, Bool.false_eq, Bool.or_eq_false_iff,
      beq_eq_false_iff_ne]
    omega

/-- A word is not 0 exactly when one of its bits is 1. -/
theorem word_ne_zero_iff (w : Word) : w ≠ 0#32 ↔ ∃ i, w.getLsbD i = true := by
  constructor
  · intro hw
    by_contra hbits
    refine hw (word_ext fun i _ => ?_)
    simpa using not_exists.mp hbits i
  · rintro ⟨i, hi⟩ rfl
    simp at hi

/-- The interrupt line: some flag is set with its enable (R46). -/
theorem State.irq_iff (s : State) :
    s.irq = true ↔ ∃ i ∈ [1, 8, 9, 10, 11], s.status.getLsbD i = true ∧ s.ien.getLsbD i = true := by
  have hbit : ∀ i, (s.status &&& s.ien &&& Config.flagMask).getLsbD i = true ↔
      i ∈ [1, 8, 9, 10, 11] ∧ s.status.getLsbD i = true ∧ s.ien.getLsbD i = true := by
    intro i
    rw [BitVec.getLsbD_and, BitVec.getLsbD_and, getLsbD_flagMask, Bool.and_eq_true, Bool.and_eq_true,
      List.contains_iff_mem, and_comm]
  rw [State.irq, bne_iff_ne, word_ne_zero_iff]
  exact exists_congr hbit

/-- Settles O15: the mask of the write, bit by bit, and `State.irq_iff`. -/
theorem ienMasksItsWriteAndEnablesIrq : Obligations.IenMasksItsWriteAndEnablesIrq := by
  refine ⟨fun s d => ⟨_, hostWrite_regAddr .ien d s, rfl, fun i => ?_⟩, State.irq_iff⟩
  exact (BitVec.getLsbD_and ..).trans (congrArg (d.getLsbD i && ·) (getLsbD_flagMask i))

/-- The bits of STATUS after the host's return from a refusal (R27, R230). -/
theorem State.getLsbD_acknowledge (s : State) (d : Word) (i : Nat) :
    (s.acknowledge d).status.getLsbD i =
      (s.status.getLsbD i && !(d.getLsbD i && [1, 8, 9, 10, 11].contains i)) := by
  rw [State.acknowledge_status, BitVec.getLsbD_and, BitVec.getLsbD_not, BitVec.getLsbD_and, getLsbD_flagMask]
  rcases Nat.lt_or_ge i 32 with hi | hi
  · rw [decide_eq_true hi, Bool.true_and]
  · rw [BitVec.getLsbD_of_ge s.status i hi, Bool.false_and, Bool.false_and]

/-- Settles O16: the write is the acknowledgement, whose bits `State.getLsbD_acknowledge` gives. -/
theorem statusWriteClearsExactlyTheFlagsWritten : Obligations.StatusWriteClearsExactlyTheFlagsWritten :=
  fun s d => ⟨_, hostWrite_regAddr .status d s, rfl, s.getLsbD_acknowledge d⟩

/-- A word that decodes is run as its command (R175). -/
theorem command_of_decode {w : Word} {i : Instr} (h : decode w = .ok i) (s : State) : command w s = exec i s := by
  unfold command; rw [h]

/-- Settles O4: the event is a write of CMD, and that write runs the decoded command. -/
theorem stepRunsTheWrittenCommand : Obligations.StepRunsTheWrittenCommand := by
  intro s w i rest hdecode hpending
  calc step s = hostWrite (regAddr .cmd) w { s with pending := rest } := step_cons hpending
    _ = mapNext answerWrite (command w { s with pending := rest }) := hostWrite_regAddr .cmd w _
    _ = mapNext answerWrite (exec i { s with pending := rest }) := by rw [command_of_decode hdecode]

/-- Settles O18: the arm of each read-only register answers and writes nothing; CSCIN's stores the word. -/
theorem readOnlyRegistersIgnoreWrites : Obligations.ReadOnlyRegistersIgnoreWrites := by
  refine fun s d => ⟨fun r hr => ?_, hostWrite_regAddr .cscin d s⟩
  rw [hostWrite_regAddr]
  cases r
  case cmd | status | ien | width | height | cscin => exact absurd hr (by decide)
  all_goals rfl

/-- The lookup port at 0: both tables give 0 (R118). -/
theorem lookup_of_cscin_zero {s : State} (h : s.cscin = 0#32) : s.csclin = 0#32 ∧ s.cscsrgb = 0#32 := by
  have hlin : lin 0 = 0 := by decide +kernel
  have hsrgb : srgb 0 = 0 := by decide +kernel
  have hclamp : ∀ hi : Int, 0 ≤ hi → clamp (signed32 0#32) 0 hi = 0 := by
    intro hi hhi
    have hzero : signed32 0#32 = 0 := by decide
    rw [hzero, clamp, if_neg (by omega), if_neg (by omega)]
  unfold State.csclin State.cscsrgb
  rw [h, hclamp 255 (by decide), hclamp Config.one (by decide)]
  exact ⟨congrArg (BitVec.ofNat 32) hlin, congrArg (BitVec.ofNat 32) hsrgb⟩

/-- Settles O25: every stored register is 0 at reset, and so is what the lookup port gives. -/
theorem registersReadTheirResetValues : Obligations.RegistersReadTheirResetValues := by
  obtain ⟨hlin, hsrgb⟩ := lookup_of_cscin_zero (s := State.reset) rfl
  refine ⟨fun r => ?_, rfl, rfl, rfl, rfl⟩
  cases r
  case csclin => exact hlin
  case cscsrgb => exact hsrgb
  all_goals rfl

end Sys2Proof.Machine

/-! ## The address map, the windows and the lock (spec/20_memory.md R63 to R70) -/

namespace Sys2Proof.Machine

variable {s : State} {addr : BusAddr} {i j m : Nat}

/-! ### The address map (R63) -/

/-- The fields of the address of element `i` of a region: aligned, its index, its region (R63, R64). -/
theorem busAddr_ofNat_fields {region : Nat} (hr : region < 16) (hi : i < 2 ^ 22)
    (ha : addr = BitVec.ofNat 28 (region * 2 ^ 24 + 4 * i)) :
    addr.extractLsb' 0 2 = 0#2 ∧ (addr.extractLsb' 2 22).toNat = i ∧ (addr.extractLsb' 24 4).toNat = region := by
  have hval : addr.toNat = region * 2 ^ 24 + 4 * i := by
    rw [ha, BitVec.toNat_ofNat]
    exact Nat.mod_eq_of_lt (by omega)
  obtain ⟨-, hindex, hregion, -⟩ := busAddr_fields addr
  refine ⟨(busAddr_aligned_iff addr).mpr ?_, hindex.trans ?_, hregion.trans ?_⟩ <;> omega

theorem addrTarget_imemAddr (hcap : m ≤ 2 ^ 22) (hi : i < m) : addrTarget m (imemAddr i) = some (.imem i) := by
  obtain ⟨halign, hindex, hregion⟩ :=
    busAddr_ofNat_fields (addr := imemAddr i) (region := 1) (by decide) (hi.trans_le hcap) rfl
  simp [addrTarget, halign, hindex, hregion, hi]

theorem addrTarget_bmemAddr (hcap : m ≤ 2 ^ 22) (hi : i < m) : addrTarget m (bmemAddr i) = some (.bmem i) := by
  obtain ⟨halign, hindex, hregion⟩ :=
    busAddr_ofNat_fields (addr := bmemAddr i) (region := 2) (by decide) (hi.trans_le hcap) rfl
  simp [addrTarget, halign, hindex, hregion, hi]

theorem addrTarget_wbufAddr (hcap : m ≤ 2 ^ 22) (hi : i < m) : addrTarget m (wbufAddr i) = some (.wbuf i) := by
  obtain ⟨halign, hindex, hregion⟩ :=
    busAddr_ofNat_fields (addr := wbufAddr i) (region := 3) (by decide) (hi.trans_le hcap) rfl
  simp [addrTarget, halign, hindex, hregion, hi]

theorem addrTarget_pmemAddr (hcap : m ≤ 2 ^ 22) (hj : j < m / 4) : addrTarget m (pmemAddr j) = some (.pmem j) := by
  obtain ⟨halign, hindex, hregion⟩ :=
    busAddr_ofNat_fields (addr := pmemAddr j) (region := 4) (by decide) (by omega) rfl
  simp [addrTarget, halign, hindex, hregion, hj]

theorem State.maxpix_le (s : State) : s.maxpix ≤ 2 ^ 22 := s.maxpix_bounds.2.1

/-- Settles O19: the fields of each address, and every index below the capacity fits the index field. -/
theorem addressMapReachesEveryElement : Obligations.AddressMapReachesEveryElement :=
  fun s => ⟨addrTarget_regAddr s.maxpix,
    fun _ hi => ⟨addrTarget_imemAddr s.maxpix_le hi, addrTarget_bmemAddr s.maxpix_le hi,
      addrTarget_wbufAddr s.maxpix_le hi⟩,
    fun _ hj => addrTarget_pmemAddr s.maxpix_le hj⟩

/-! ### Reads of registers (R65) -/

/-- A read at a register's address answers the register's word, in every state (R63, R65). -/
theorem hostRead_regAddr (r : Reg) (s : State) : hostRead (regAddr r) s = answerRead (regRead r s) s := by
  unfold hostRead; rw [addrTarget_regAddr]

/-- Settles O17: the table of the statement is the seventeen registers' addresses and words. -/
theorem registerReadsReturnTheirWords : Obligations.RegisterReadsReturnTheirWords := by
  intro s
  change ∀ row ∈ [Reg.id, .cmd, .status, .ien, .width, .height, .stride, .plen, .curx, .cury, .errcmd, .erraddr,
    .cscin, .csclin, .cscsrgb, .cap, .actcmd].map (fun r => (regAddr r, regRead r s)), _
  exact List.forall_mem_map.mpr fun r _ => hostRead_regAddr r s

/-! ### The windows while idle (R67 to R69) -/

theorem windowRead_idle (hb : s.busy = false) (data : Word) : windowRead addr data s = answerRead data s := by
  simp [windowRead, hb]

theorem lockedWrite_idle (hb : s.busy = false) (u : State) : lockedWrite addr u s = answerWrite u := by
  simp [lockedWrite, hb]

theorem hostRead_imemAddr (hi : i < s.maxpix) (hb : s.busy = false) :
    hostRead (imemAddr i) s = answerRead ((s.imemAt i).setWidth 32) s := by
  simp only [hostRead, addrTarget_imemAddr s.maxpix_le hi, windowRead_idle hb]

theorem hostRead_bmemAddr (hi : i < s.maxpix) (hb : s.busy = false) :
    hostRead (bmemAddr i) s = answerRead ((s.bmemAt i).setWidth 32) s := by
  simp only [hostRead, addrTarget_bmemAddr s.maxpix_le hi, windowRead_idle hb]

theorem hostRead_wbufAddr (hi : i < s.maxpix) (hb : s.busy = false) :
    hostRead (wbufAddr i) s = answerRead (sext32 (s.wbufCell i)) s := by
  simp only [hostRead, addrTarget_wbufAddr s.maxpix_le hi, windowRead_idle hb]

theorem hostRead_pmemAddr (hj : j < s.maxpix / 4) (hb : s.busy = false) :
    hostRead (pmemAddr j) s = answerRead (s.pmemWord j) s := by
  simp only [hostRead, addrTarget_pmemAddr s.maxpix_le hj, windowRead_idle hb]

theorem hostWrite_imemAddr (hi : i < s.maxpix) (hb : s.busy = false) (d : Word) :
    hostWrite (imemAddr i) d s = .next (answerWrite (s.writeImem i (clampCode d))) := by
  simp only [hostWrite, addrTarget_imemAddr s.maxpix_le hi, lockedWrite_idle hb]

theorem hostWrite_bmemAddr (hi : i < s.maxpix) (hb : s.busy = false) (d : Word) :
    hostWrite (bmemAddr i) d s = .next (answerWrite (s.writeBmem i (d.extractLsb' 0 1))) := by
  simp only [hostWrite, addrTarget_bmemAddr s.maxpix_le hi, lockedWrite_idle hb]

theorem hostWrite_wbufAddr (hi : i < s.maxpix) (hb : s.busy = false) (d : Word) :
    hostWrite (wbufAddr i) d s = .next (answerWrite s) := by
  simp only [hostWrite, addrTarget_wbufAddr s.maxpix_le hi, lockedWrite_idle hb]

theorem hostWrite_pmemAddr (hj : j < s.maxpix / 4) (hb : s.busy = false) (d : Word) :
    hostWrite (pmemAddr j) d s = .next (answerWrite s) := by
  simp only [hostWrite, addrTarget_pmemAddr s.maxpix_le hj, lockedWrite_idle hb]

/-- The code the IMEM window stores is the clamped data: 8 bits hold it (R67). -/
theorem toNat_clampCode (d : Word) : ((clampCode d).toNat : Int) = clamp d.toInt 0 255 := by
  obtain ⟨hlo, hhi⟩ := clamp_mem d.toInt (lo := 0) (hi := 255) (by decide)
  rw [clampCode, signed32, BitVec.toNat_ofNat]
  omega

theorem clampCode_of_neg {d : Word} (hd : d.toInt < 0) : clampCode d = 0#8 := by
  have h := toNat_clampCode d
  rw [clamp, if_pos hd] at h
  exact BitVec.eq_of_toNat_eq (Int.ofNat_inj.mp h)

theorem clampCode_of_gt {d : Word} (hd : 255 < d.toInt) : clampCode d = 255#8 := by
  have h := toNat_clampCode d
  rw [clamp, if_neg (by omega), if_pos hd] at h
  exact BitVec.eq_of_toNat_eq (Int.ofNat_inj.mp h)

theorem toNat_clampCode_of_mem {d : Word} (hlo : 0 ≤ d.toInt) (hhi : d.toInt ≤ 255) :
    ((clampCode d).toNat : Int) = d.toInt := by
  rw [toNat_clampCode, clamp, if_neg (by omega), if_neg (by omega)]

/-- Settles O20: each write stores one element (`State.imemAt_writeImem`, `State.bmemAt_writeBmem`), which is
the clamped data or bit 0 of it. -/
theorem imemAndBmemWindowsStoreOneElement : Obligations.ImemAndBmemWindowsStoreOneElement := by
  intro s i d hi hb
  have himem : ∀ j, (answerWrite (s.writeImem i (clampCode d))).imemAt j =
      if j = i then clampCode d else s.imemAt j := fun j => s.imemAt_writeImem i j _
  have hbmem : ∀ j, (answerWrite (s.writeBmem i (d.extractLsb' 0 1))).bmemAt j =
      if j = i then d.extractLsb' 0 1 else s.bmemAt j := fun j => s.bmemAt_writeBmem i j _
  refine ⟨⟨_, hostWrite_imemAddr hi hb d, rfl, ?neg, ?above, ?between, ?others⟩,
    ⟨_, hostWrite_bmemAddr hi hb d, rfl, ?bit, ?otherBits⟩, ?readCode, ?readBit⟩
  case neg => intro hd; rw [himem, if_pos rfl, clampCode_of_neg hd]
  case above => intro hd; rw [himem, if_pos rfl, clampCode_of_gt hd]
  case between => intro hlo hhi; rw [himem, if_pos rfl, toNat_clampCode_of_mem hlo hhi]
  case others => intro j hj; rw [himem, if_neg hj]
  case bit => rw [hbmem, if_pos rfl, BitVec.getLsbD_extractLsb']; rfl
  case otherBits => intro j hj; rw [hbmem, if_neg hj]
  case readCode => rw [hostRead_imemAddr hi hb, BitVec.ofNat_toNat]; rfl
  case readBit => rw [hostRead_bmemAddr hi hb, BitVec.ofNat_toNat]; rfl

/-- Settles O21: sign extension is the word of the cell's integer. -/
theorem wbufWindowReadsSignExtended : Obligations.WbufWindowReadsSignExtended :=
  fun _ _ d hi hb => ⟨hostRead_wbufAddr hi hb, hostWrite_wbufAddr hi hb d⟩

/-- Above the lowest byte a word's bytes are those of its upper part. -/
theorem extractLsb'_append_byte {n : Nat} (hi : BitVec n) (lo : Byte) (k : Nat) :
    (hi ++ lo).extractLsb' (k + 8) 8 = hi.extractLsb' k 8 := by
  rw [BitVec.extractLsb'_append_eq_of_le (Nat.le_add_left 8 k), Nat.add_sub_cancel]

/-- The four bytes of a word of PMEM, the lowest in bits 7:0 (R69, R71). -/
theorem State.pmemWord_bytes (s : State) (j : Nat) :
    (s.pmemWord j).extractLsb' 0 8 = s.pmemAt (4 * j) ∧ (s.pmemWord j).extractLsb' 8 8 = s.pmemAt (4 * j + 1) ∧
    (s.pmemWord j).extractLsb' 16 8 = s.pmemAt (4 * j + 2) ∧
    (s.pmemWord j).extractLsb' 24 8 = s.pmemAt (4 * j + 3) :=
  ⟨BitVec.extractLsb'_append_eq_right,
    (extractLsb'_append_byte _ _ 0).trans BitVec.extractLsb'_append_eq_right,
    (extractLsb'_append_byte _ _ 8).trans <| (extractLsb'_append_byte _ _ 0).trans
      BitVec.extractLsb'_append_eq_right,
    (extractLsb'_append_byte _ _ 16).trans <| (extractLsb'_append_byte _ _ 8).trans
      BitVec.extractLsb'_append_eq_left⟩

/-- Settles O22: the word read is `State.pmemWord`, whose bytes `State.pmemWord_bytes` gives. -/
theorem pmemWindowIsLittleEndianAndReadOnly : Obligations.PmemWindowIsLittleEndianAndReadOnly :=
  fun s j d hj hb => ⟨⟨_, hostRead_pmemAddr hj hb, s.pmemWord_bytes j⟩, hostWrite_pmemAddr hj hb d⟩

/-! ### The lock (R70) -/

/-- A read refused because a command runs, field by field (R61, R223, R229). -/
theorem refuseRead_busy_eq (addr : BusAddr) (s : State) : refuseRead .busy addr s = { s with
    erraddr := addr.setWidth 32, status := s.status ||| 0x400#32, reply := some (.read .err 0#32) } := by
  rw [refuseRead, State.raise_access_eq, withBit_code]; rfl

/-- A write refused because a command runs, field by field (R62, R223, R229). -/
theorem refuseWrite_busy_eq (addr : BusAddr) (s : State) : refuseWrite .busy addr s = { s with
    erraddr := addr.setWidth 32, status := s.status ||| 0x400#32, reply := some (.write .err) } := by
  rw [refuseWrite, State.raise_access_eq, withBit_code]; rfl

theorem lockedWrite_busy (hb : s.busy = true) (u : State) : lockedWrite addr u s = refuseWrite .busy addr s := by
  simp [lockedWrite, hb]

/-- While a command runs, a read of any window is refused (R70). -/
theorem hostRead_window_busy (hb : s.busy = true) {w : Target} (ha : addrTarget s.maxpix addr = some w)
    (hw : ∀ r, w ≠ .reg r) : hostRead addr s = refuseRead .busy addr s := by
  cases w with
  | reg r => exact absurd rfl (hw r)
  | imem | bmem | wbuf | pmem => simp only [hostRead, ha, windowRead, hb, if_true]

/-- While a command runs, a write of any window is refused, the ignored ones included (R70). -/
theorem hostWrite_window_busy (hb : s.busy = true) {w : Target} (ha : addrTarget s.maxpix addr = some w)
    (hw : ∀ r, w ≠ .reg r) (d : Word) : hostWrite addr d s = .next (refuseWrite .busy addr s) := by
  cases w with
  | reg r => exact absurd rfl (hw r)
  | imem | bmem | wbuf | pmem => simp only [hostWrite, ha, lockedWrite_busy hb]

/-- The addresses of the elements below the capacity all name windows (R63). -/
theorem addrTarget_window
    (ha : (∃ i, i < s.maxpix ∧ (addr = imemAddr i ∨ addr = bmemAddr i ∨ addr = wbufAddr i)) ∨
      (∃ j, j < s.maxpix / 4 ∧ addr = pmemAddr j)) :
    ∃ w, addrTarget s.maxpix addr = some w ∧ ∀ r, w ≠ .reg r := by
  rcases ha with ⟨i, hi, rfl | rfl | rfl⟩ | ⟨j, hj, rfl⟩
  · exact ⟨_, addrTarget_imemAddr s.maxpix_le hi, nofun⟩
  · exact ⟨_, addrTarget_bmemAddr s.maxpix_le hi, nofun⟩
  · exact ⟨_, addrTarget_wbufAddr s.maxpix_le hi, nofun⟩
  · exact ⟨_, addrTarget_pmemAddr s.maxpix_le hj, nofun⟩

/-- Settles O23: windows and dimensions go through the lock; every other register's arm answers OK. -/
theorem lockRefusesWindowsAndDimensionsWhileBusy : Obligations.LockRefusesWindowsAndDimensionsWhileBusy := by
  intro s d hb
  refine ⟨fun addr ha => ?windows, fun r hr => ?dimensions, (hostRead_regAddr · s), fun r hr => ?unlocked⟩
  case windows =>
    obtain ⟨w, htarget, hw⟩ := addrTarget_window ha
    rw [hostRead_window_busy hb htarget hw, hostWrite_window_busy hb htarget hw, refuseRead_busy_eq,
      refuseWrite_busy_eq]
    exact ⟨rfl, rfl⟩
  case dimensions =>
    rw [hostWrite_regAddr, ← refuseWrite_busy_eq]
    cases r
    case width | height => exact congrArg Host.Outcome.next (lockedWrite_busy hb _)
    all_goals exact absurd hr (by decide)
  case unlocked =>
    rw [hostWrite_regAddr]
    cases r
    case cmd =>
      obtain ⟨u, hu⟩ := command_next d s
      exact ⟨answerWrite u, congrArg (mapNext answerWrite) hu, rfl⟩
    case status | ien | cscin => exact ⟨_, rfl, rfl⟩
    all_goals exact absurd hr (by decide)

end Sys2Proof.Machine

/-! ## The cells stay in range, so no visit stops (spec/41_dither.md R134, R140) -/

namespace Sys2Proof.Machine

variable {s t u : State}

/-! ### What the deposits of a visit add to each cell (R134) -/

/-- What one share of a visit of (x, y) adds to cell `j`: all of it if `j` is its target's linear index, nothing if
the target is another cell or outside the frame. -/
def Share.gainAt (s : State) (x y : Int) (j : Nat) (a : Share) : Int :=
  if s.inFrame (x + a.dx) (y + a.dy) = true ∧ (y + a.dy) * s.frameW + (x + a.dx) = j then a.d else 0

/-- What the shares of a visit add to cell `j` together. -/
def gainAt (s : State) (x y : Int) (l : List Share) (j : Nat) : Int := (l.map (Share.gainAt s x y j)).sum

/-- The most that a list of shares can move one cell, were it the target of all. -/
def reach (l : List Share) : Int := (l.map fun a => |a.d|).sum

theorem reach_cons (a : Share) (l : List Share) : reach (a :: l) = |a.d| + reach l := rfl

theorem reach_nonneg (l : List Share) : 0 ≤ reach l :=
  List.sum_nonneg (by simp)

theorem gainAt_cons (s : State) (x y : Int) (a : Share) (l : List Share) (j : Nat) :
    gainAt s x y (a :: l) j = a.gainAt s x y j + gainAt s x y l j := rfl

/-- The gains depend on the frame's dimensions alone. -/
theorem gainAt_congr {x y : Int} {l : List Share} {j : Nat} (hw : t.width = s.width) (hh : t.height = s.height) :
    gainAt t x y l j = gainAt s x y l j := by
  have hin : t.inFrame = s.inFrame := by
    unfold State.inFrame; rw [State.frameW_congr hw, State.frameH_congr hh]
  unfold gainAt Share.gainAt
  rw [hin, State.frameW_congr hw]

/-- A deposit whose sum fits the cell is done, and adds its share's gain to every cell. -/
theorem deposit_gain {x y : Int} {a : Share}
    (hfit : ∀ j, j < s.cols * s.rows → -131072 ≤ s.wbufAt j + a.d ∧ s.wbufAt j + a.d ≤ 131071) :
    ∃ t, deposit (x + a.dx) (y + a.dy) a.d s = some t ∧ t.width = s.width ∧ t.height = s.height ∧
      ∀ j, t.wbufAt j = s.wbufAt j + a.gainAt s x y j := by
  unfold deposit Share.gainAt
  by_cases hin : s.inFrame (x + a.dx) (y + a.dy) = true
  · have hlt := inFrame_index_lt hin
    have hnonneg : 0 ≤ (y + a.dy) * s.frameW + (x + a.dx) := by
      simp only [State.inFrame, Bool.and_eq_true, decide_eq_true_eq] at hin
      obtain ⟨⟨⟨hx, hxw⟩, hy⟩, -⟩ := hin
      have := Int.mul_nonneg hy (hx.trans hxw.le)
      omega
    obtain ⟨hlo, hhi⟩ := hfit _ hlt
    have hcell := cellOfInt_isSome hlo hhi
    simp only [hin, if_true, hcell, true_and]
    refine ⟨_, rfl, rfl, rfl, fun j => ?_⟩
    rw [State.wbufAt_writeWbuf, cellOfInt_toInt hcell]
    by_cases hj : (y + a.dy) * s.frameW + (x + a.dx) = j
    · rw [if_pos (by omega), if_pos hj, hj, Int.toNat_natCast]
    · rw [if_neg (by omega), if_neg hj, add_zero]
  · exact ⟨s, by simp [hin], rfl, rfl, by simp [hin]⟩

/-- Deposits that leave every cell of the frame within 18 bits, in whatever order they meet, are all done, and each
cell gains what lands in it. -/
theorem depositAll_gain {x y : Int} {l : List Share}
    (hfit : ∀ j, j < s.cols * s.rows → -131072 ≤ s.wbufAt j - reach l ∧ s.wbufAt j + reach l ≤ 131071) :
    ∃ t, depositAll x y l s = some t ∧ ∀ j, t.wbufAt j = s.wbufAt j + gainAt s x y l j := by
  induction l generalizing s with
  | nil => exact ⟨s, rfl, fun j => (add_zero _).symm⟩
  | cons a l ih =>
    have hreach := reach_nonneg l
    have habs := neg_abs_le a.d
    have habs' := le_abs_self a.d
    rw [reach_cons] at hfit
    obtain ⟨u, hu, hw, hh, hgain⟩ := deposit_gain (s := s) (x := x) (y := y) (a := a) fun j hj => by
      have := hfit j hj; omega
    have hfit' : ∀ j, j < u.cols * u.rows → -131072 ≤ u.wbufAt j - reach l ∧ u.wbufAt j + reach l ≤ 131071 := by
      intro j hj
      rw [State.cols_congr hw, State.rows_congr hh] at hj
      have := hfit j hj
      rw [hgain, Share.gainAt]
      split <;> omega
    obtain ⟨t, ht, htgain⟩ := ih hfit'
    refine ⟨t, by simp only [depositAll, hu, Option.bind_some, ht], fun j => ?_⟩
    rw [htgain, hgain, gainAt_congr hw hh, gainAt_cons, add_assoc]

/-! ### How much a cell can have received (R140) -/

/-- How far on in the linear index a share's target lies, in a frame of width `w` (R10). -/
def Share.offset (w : Int) (a : Share) : Int := a.dy * w + a.dx

/-- The bound that a share `c` of the greatest error puts on cell `j` once the first `p` pixels are visited: all of
it if its source is one of them, as yet nothing otherwise. -/
def Share.boundAt (w : Int) (p j : Nat) (c : Share) : Int := if (j : Int) - c.offset w < p then c.d else 0

/-- The most that the visits of the first `p` pixels can have moved cell `j`: the full shares of an error of HALF from
each of its sources visited so far. -/
def receivedBound (m : Method) (w : Int) (p j : Nat) : Int :=
  ((sharesOf m Config.half).map (Share.boundAt w p j)).sum

/-- A share has the direction of another and is at most as large. -/
structure Share.CappedBy (a c : Share) : Prop where
  dx : a.dx = c.dx
  dy : a.dy = c.dy
  d : |a.d| ≤ c.d

/-- Truncation toward zero lets no quotient grow: it is at most that of a bound on the dividend (R140). -/
theorem abs_tdiv_le {a b n : Int} (hn : 0 < n) (h : |a| ≤ b) : |tdiv a n| ≤ tdiv b n := by
  obtain ⟨hlo, hhi⟩ := abs_le.mp h
  rw [abs_le, ← tdiv_neg]
  simp only [tdiv_eq_int_tdiv]
  exact ⟨Int.tdiv_le_tdiv hn hlo, Int.tdiv_le_tdiv hn hhi⟩

/-- The shares of an error of at most HALF are capped by those of HALF (R136, R137). -/
theorem sharesOf_capped (m : Method) {e : Int} (he : |e| ≤ Config.half) :
    List.Forall₂ Share.CappedBy (sharesOf m e) (sharesOf m Config.half) := by
  have hcap : ∀ {dx dy k n : Int}, 0 ≤ k → 0 < n →
      Share.CappedBy ⟨dx, dy, tdiv (k * e) n⟩ ⟨dx, dy, tdiv (k * Config.half) n⟩ := by
    intro dx dy k n hk hn
    refine ⟨rfl, rfl, abs_tdiv_le hn ?_⟩
    rw [abs_mul, abs_of_nonneg hk]
    exact mul_le_mul_of_nonneg_left he hk
  have hone : ∀ {dx dy n : Int}, 0 < n → Share.CappedBy ⟨dx, dy, tdiv e n⟩ ⟨dx, dy, tdiv Config.half n⟩ :=
    fun hn => ⟨rfl, rfl, abs_tdiv_le hn he⟩
  have h16 : (0 : Int) < 16 := by decide
  have h8 : (0 : Int) < 8 := by decide
  cases m with
  | ord =>
    exact .cons (hcap (by decide) h16) (.cons (hcap (by decide) h16) (.cons (hcap (by decide) h16)
      (.cons (hone h16) .nil)))
  | ext =>
    exact .cons (hone h8) (.cons (hone h8) (.cons (hone h8) (.cons (hone h8) (.cons (hone h8) (.cons (hone h8) .nil)))))

/-- No share of the greatest error is negative, and together they are at most HALF (R140). -/
theorem sharesOf_half (m : Method) :
    (∀ c ∈ sharesOf m Config.half, 0 ≤ c.d) ∧ ((sharesOf m Config.half).map Share.d).sum ≤ Config.half := by
  cases m <;> decide

theorem receivedBound_nonneg (m : Method) (w : Int) (p j : Nat) : 0 ≤ receivedBound m w p j := by
  refine List.sum_nonneg fun v hv => ?_
  obtain ⟨c, hc, rfl⟩ := List.mem_map.mp hv
  have := (sharesOf_half m).1 c hc
  unfold Share.boundAt
  split <;> omega

/-- Whatever has been visited, a cell has moved by at most HALF: any of the weights sum to at most 1 (R140). -/
theorem receivedBound_le (m : Method) (w : Int) (p j : Nat) : receivedBound m w p j ≤ Config.half := by
  obtain ⟨hnonneg, hsum⟩ := sharesOf_half m
  refine le_trans (List.sum_le_sum fun c hc => ?_) hsum
  have := hnonneg c hc
  unfold Share.boundAt
  split <;> omega

/-- An error of at most HALF can move no cell further than HALF in one visit. -/
theorem reach_sharesOf_le (m : Method) {e : Int} (he : |e| ≤ Config.half) : reach (sharesOf m e) ≤ Config.half := by
  refine le_trans (List.Forall₂.sum_le_sum ?_) (sharesOf_half m).2
  rw [List.forall₂_map_left_iff, List.forall₂_map_right_iff]
  exact (sharesOf_capped m he).imp fun _ _ h => h.d

/-- The visit of pixel `p` moves no cell further than its bound then grows: the cell a share lands in is the one
that has `p` as its source. -/
theorem abs_gainAt_le {x y : Int} {p : Nat} {l caps : List Share} (hp : y * s.frameW + x = p) (j : Nat)
    (h : List.Forall₂ Share.CappedBy l caps) :
    |gainAt s x y l j| ≤
      (caps.map (Share.boundAt s.frameW (p + 1) j)).sum - (caps.map (Share.boundAt s.frameW p j)).sum := by
  induction h with
  | nil => exact le_rfl
  | @cons a c l caps hac _ ih =>
    obtain ⟨hdx, hdy, hd⟩ := hac
    have hc : 0 ≤ c.d := (abs_nonneg _).trans hd
    have htarget : (y + a.dy) * s.frameW + (x + a.dx) = p + c.offset s.frameW := by
      rw [Share.offset, ← hp, hdx, hdy]; ring
    have hshare : |a.gainAt s x y j| ≤ c.boundAt s.frameW (p + 1) j - c.boundAt s.frameW p j := by
      unfold Share.gainAt Share.boundAt
      rw [htarget, Nat.cast_succ]
      by_cases hlands : s.inFrame (x + a.dx) (y + a.dy) = true ∧ (p : Int) + c.offset s.frameW = j
      · rw [if_pos hlands, if_pos (by omega), if_neg (by omega), sub_zero]
        exact hd
      · rw [if_neg hlands, abs_zero]
        split_ifs <;> omega
    rw [gainAt_cons, List.map_cons, List.map_cons, List.sum_cons, List.sum_cons]
    have := abs_add_le (a.gainAt s x y j) (gainAt s x y l j)
    omega

/-! ### The range along a command (R131, R140) -/

/-- Where the cells of the frame lie when `p` elements of a phase are done: those seeded so far in [0, ONE]; in
DIFFUSE within what they can have received of it; after a dither stage in [-HALF, ONE + HALF]. -/
def State.WorkInRange (s : State) (p : Nat) : Phase → Prop
  | .seed => ∀ j, j < p → 0 ≤ s.wbufAt j ∧ s.wbufAt j ≤ Config.one
  | .diffuse => ∀ j, j < s.cols * s.rows →
      -receivedBound s.method s.frameW p j ≤ s.wbufAt j ∧
        s.wbufAt j ≤ Config.one + receivedBound s.method s.frameW p j
  | .pack | .idle => hasDither s.actcmd = true → s.cellsInRange

/-- What a cell can have received is at most HALF, so during DIFFUSE all cells are in range. -/
theorem State.WorkInRange.cellsInRange {p : Nat} (h : s.WorkInRange p .diffuse) : s.cellsInRange := by
  intro j hj
  have := h j hj
  have := receivedBound_le s.method s.frameW p j
  omega

/-- On cells in range the deposits of a visit are all done, and each cell has its gain (R140: no overflow). -/
theorem visit_gain (hr : s.cellsInRange) {i : Nat} (hi : i < s.cols * s.rows) (x y : Int) (v : PixelBit) :
    |quantError (s.wbufAt i)| ≤ Config.half ∧
      ∃ t, depositAll x y (sharesOf s.method (quantError (s.wbufAt i))) (s.writeBmem i v) = some t ∧
        ∀ j, t.wbufAt j = s.wbufAt j + gainAt s x y (sharesOf s.method (quantError (s.wbufAt i))) j := by
  have he : |quantError (s.wbufAt i)| ≤ Config.half := abs_le.mpr (quantError_range (hr i hi).1 (hr i hi).2)
  have hreach := reach_sharesOf_le s.method he
  refine ⟨he, depositAll_gain (s := s.writeBmem i v) fun j hj => ?_⟩
  have := hr j hj
  rw [State.wbufAt_writeBmem]
  simp only [Config.half, Config.one] at *
  omega

/-- The work of a running command's step is always done, and one more element of the phase is in range. -/
theorem phaseWork_inRange (hs : s.Running) (hp : s.phase ≠ .idle) (hr : s.WorkInRange s.scanPos s.phase) :
    ∃ u, phaseWork s = some u ∧ u.WorkInRange (s.scanPos + 1) s.phase := by
  unfold phaseWork
  cases hq : s.phase with
  | idle => exact absurd hq hp
  | seed =>
    rw [hq] at hr
    obtain ⟨hpos, -⟩ := cursorIndex_scan hs.ready (by simp [hq])
    refine ⟨_, rfl, fun j hj => ?_⟩
    rw [hpos, State.wbufAt_writeWbuf]
    split
    · have := seedOf_le s.method (s.imemAt s.scanPos)
      rw [seedOf_toInt, Config.one]
      omega
    · exact hr j (by omega)
  | diffuse =>
    rw [hq] at hr
    obtain ⟨hpos, hlt⟩ := cursorIndex_scan hs.ready (by simp [hq])
    obtain ⟨hcols, -⟩ := State.engineReady_nat hs.ready
    have hplace : (s.y : Int) * s.frameW + s.x = s.scanPos := by
      rw [← hpos, State.cursorIndex, ← hcols]; push_cast; rfl
    obtain ⟨he, u, hu, hgain⟩ := visit_gain hr.cellsInRange hlt s.x s.y (decision (s.wbufAt s.cursorIndex))
    refine ⟨u, hu, ?_⟩
    obtain ⟨m, rfl⟩ := depositAll_frame hu
    intro j hj
    have hstep := abs_le.mp (abs_gainAt_le hplace j (sharesOf_capped s.method he))
    have hcell := hr j hj
    rw [hgain j]
    change -receivedBound s.method s.frameW _ j ≤ _ ∧ _ ≤ _ + receivedBound s.method s.frameW _ j
    simp only [receivedBound] at *
    omega
  | pack => rw [hq] at hr; exact ⟨_, rfl, hr⟩

/-- A finished phase leaves the cells as the next one needs them. -/
theorem State.WorkInRange.phaseEnd (hp : s.phase ≠ .idle) (hr : s.WorkInRange s.scanLen s.phase) :
    (phaseEnd s).WorkInRange 0 s.nextPhase := by
  have hcells : (Machine.phaseEnd s).wbufAt = s.wbufAt := funext (wbufAt_phaseEnd s)
  have hkept : s.cellsInRange → (Machine.phaseEnd s).cellsInRange := by
    unfold State.cellsInRange
    rw [cols_phaseEnd, rows_phaseEnd, hcells]
    exact id
  unfold State.nextPhase
  cases hq : s.phase with
  | idle => exact absurd hq hp
  | seed =>
    rw [hq] at hr
    have hlen : s.scanLen = s.cols * s.rows := by simp [State.scanLen, State.limit, hq, Nat.mul_comm]
    intro j hj
    rw [cols_phaseEnd, rows_phaseEnd, ← hlen] at hj
    have := hr j hj
    have := receivedBound_nonneg (Machine.phaseEnd s).method (Machine.phaseEnd s).frameW 0 j
    rw [hcells]
    omega
  | diffuse =>
    rw [hq] at hr
    cases hasPack s.actcmd <;> exact fun _ => hkept hr.cellsInRange
  | pack =>
    rw [hq] at hr
    intro hd
    rw [phaseEnd_actcmd] at hd
    exact hkept (hr hd)

/-! ### A running command always has a step (R140, R180, R187) -/

/-- What a running command keeps and what keeps it running: its control and the range of its cells. -/
structure State.Sound (s : State) : Prop where
  busyPhase : s.busyOk = true
  running : s.runningOk = true
  range : s.WorkInRange s.scanPos s.phase

/-- Acceptance of a command with a stage on a legal frame: no element of its first phase is done yet (R176). -/
theorem State.Sound.begin (hl : s.frameLegal = true) {w : Word} (hw : hasDither w = true ∨ hasPack w = true) :
    (s.begin w).Sound := by
  obtain ⟨hbusy, hrun⟩ := begin_control hl hw
  refine ⟨hbusy, hrun, ?_⟩
  rw [State.scanPos_begin, State.phase_begin]
  cases hd : hasDither w with
  | true => exact fun j hj => absurd hj j.not_lt_zero
  | false =>
    intro hdither
    rw [State.begin_actcmd, hd] at hdither
    cases hdither

/-- The events to come are no part of it. -/
theorem State.Sound.withPending (hs : s.Sound) (l : List Event) : State.Sound { s with pending := l } :=
  ⟨hs.busyPhase, hs.running, hs.range⟩

/-- The engine of a sound state has a step, which keeps it sound: neither of the model's faults happens. -/
theorem State.Sound.engineStep (hs : s.Sound) : ∃ t, engineStep s = .next t ∧ t.Sound := by
  cases hb : s.busy with
  | false => exact ⟨s, engineStep_idle hb, hs⟩
  | true =>
    have hphase := (s.busyOk_iff.mp hs.busyPhase).mp hb
    have hrunning := s.runningOk_iff.mp hs.running hb
    obtain ⟨u, hu, hwork⟩ := phaseWork_inRange hrunning hphase hs.range
    have hstep := (engineStep_busy_iff hb).mpr ⟨hrunning.ready, u, hu, rfl⟩
    obtain ⟨hbusy, hrun⟩ := engineStep_keeps_control hs.busyPhase hs.running hstep
    refine ⟨_, hstep, hbusy, hrun, ?_⟩
    obtain ⟨hready, hlimit, hpos, hlen, hup, -⟩ := phaseWork_control hu
    rcases endStep_advance (hready.trans hrunning.ready) with ⟨-, he, hp, -⟩ | ⟨hlast, he⟩
    · rw [← hlimit, he, hp, hpos, State.advance_frame, State.phase_setCursor, hup]
      exact hwork
    · rw [← hlimit, he, scanPos_phaseEnd, phase_phaseEnd]
      rw [← hpos, hlast, ← hup] at hwork
      exact State.WorkInRange.phaseEnd (hup ▸ hphase) hwork

end Sys2Proof.Machine

/-! ## A WAIT lasts as long as the command (spec/30_encoding.md R100, spec/43_control.md R187) -/

namespace Sys2Proof.Machine

variable {s t u : State} {rest : List Event}

/-- Before a WAIT a busy block takes the engine's step, and the WAIT stays (R100). -/
theorem step_wait_busy (hpend : s.pending = .wait :: rest) (hb : s.busy = true)
    (h : engineStep { s with pending := rest } = .next u) :
    step s = .next { u with pending := .wait :: rest } := by
  have hkept : u.pending = rest := congrArg (·.2.2) (engineStep_environment h)
  calc step s = mapNext (fun t => { t with pending := .wait :: t.pending })
        (engineStep { s with pending := rest }) := (step_cons hpend).trans (if_pos hb)
    _ = .next { u with pending := .wait :: rest } := by rw [h, mapNext_next, hkept]

/-- Before a WAIT an idle block answers the read of STATUS, and the WAIT is done (R100). -/
theorem step_wait_idle (hpend : s.pending = .wait :: rest) (hb : s.busy = false) :
    step s = .next (answerRead s.status { s with pending := rest }) := by
  calc step s = .next (hostRead (regAddr .status) { s with pending := rest }) :=
        (step_cons hpend).trans (if_neg (ne_true_of_eq_false hb))
    _ = .next (answerRead s.status { s with pending := rest }) := by rw [hostRead_regAddr]; rfl

/-- A WAIT outlasts the steps a command has left: after them the block is idle with DONE, and the WAIT still stands
next. -/
theorem coreRun_wait {k : Nat} (hs : s.Sound) (hpend : s.pending = .wait :: rest) (hleft : s.stepsLeft = k)
    (hdone : s.busy = false → s.done = true) :
    ∃ t, Host.Core.run core k s = .next t ∧ t.busy = false ∧ t.done = true ∧ t.pending = .wait :: rest := by
  induction k generalizing s with
  | zero =>
    have hb : s.busy = false := by
      by_contra hb
      exact (stepsLeft_pos hs.running (by simpa using hb)).ne' hleft
    exact ⟨s, rfl, hb, hdone hb, hpend⟩
  | succ k ih =>
    have hb : s.busy = true := by
      by_contra hb
      rw [State.stepsLeft, if_neg hb] at hleft
      cases hleft
    have hpolled := hs.withPending rest
    obtain ⟨u, hu, husound⟩ := hpolled.engineStep
    have huleft : u.stepsLeft = k := by
      rw [stepsLeft_engineStep hpolled.busyPhase hpolled.running hu]
      exact Nat.sub_eq_of_eq_add hleft
    have hudone : u.busy = false → u.done = true := engineStep_done (s := { s with pending := rest }) hb hu
    rw [coreRun_succ (step_wait_busy hpend hb hu)]
    exact ih (husound.withPending _) rfl huleft hudone

/-- Settles O48: the command's steps with the WAIT standing, then the one poll that finds the block idle. -/
theorem waitEndsWithTheCommand : Obligations.WaitEndsWithTheCommand := by
  intro s u i rest hb hl hi hu
  rw [exec_staged hi hb hl] at hu
  cases hu
  have hstage := hasStage_of_staged hi
  have hsound := (State.Sound.begin hl hstage).withPending (.wait :: rest)
  obtain ⟨t, ht, htb, htd, hpend⟩ := coreRun_wait hsound rfl (stepsLeft_begin hl hstage)
    fun hidle => absurd ((s.busy_begin (encode i)).symm.trans hidle) (by decide)
  refine ⟨answerRead t.status { t with pending := rest }, ?_, htb, htd, rfl, rfl⟩
  rw [coreRun_add ht]
  exact coreRun_succ (step_wait_idle hpend htb)

end Sys2Proof.Machine

/-! ## The opcode map and the host's statements (spec/30_encoding.md R91 to R100) -/

namespace Sys2Proof

/-! ### The legal words are the encodings (R93, R95, R97) -/

/-- Every command is well formed, has its own fields in its word, and is what its word decodes to. -/
theorem roundTrip : ∀ i, Laws.RoundTrip.Statement i
  | .nop => Laws.RoundTrip.nop
  | .ditherOrd => Laws.RoundTrip.ditherOrd
  | .ditherExt => Laws.RoundTrip.ditherExt
  | .packDir => Laws.RoundTrip.packDir
  | .packInv => Laws.RoundTrip.packInv
  | .runOrdDir => Laws.RoundTrip.runOrdDir
  | .runExtDir => Laws.RoundTrip.runExtDir
  | .runOrdInv => Laws.RoundTrip.runOrdInv
  | .runExtInv => Laws.RoundTrip.runExtInv
  | .srst => Laws.RoundTrip.srst

/-- A word decodes to a command exactly when it is that command's encoding (R93: matched on all 32 bits). -/
theorem decode_eq_ok_iff {w : Word} {i : Instr} : decode w = .ok i ↔ w = encode i := by
  refine ⟨eq_encode_of_decode, ?_⟩
  rintro rfl
  exact (roundTrip i).2.2

/-- Settles O1: the rows are the ten commands' words, and `decode_eq_ok_iff`. -/
theorem opcodeMapHasExactlyTenWords : Obligations.OpcodeMapHasExactlyTenWords := by
  refine ⟨?_, fun _ _ => decode_eq_ok_iff⟩
  rintro row hrow w rfl
  rw [decode_eq_ok_iff]
  revert row
  decide

/-- What makes fields legal: ZERO 0, an opcode of the map, P and M only where their stage is (R91, R97). -/
theorem CommandFields.wf_iff (f : CommandFields) : f.wf = true ↔
    f.zero = 0#22 ∧ f.opcode ∈ [0x00#8, 0x01#8, 0x02#8, 0x03#8, 0x80#8] ∧
      (f.p = true → f.opcode ∈ [0x02#8, 0x03#8]) ∧ (f.m = true → f.opcode ∈ [0x01#8, 0x03#8]) := by
  unfold CommandFields.wf CommandFields.zeroOk CommandFields.opcodeOk CommandFields.polarityOk CommandFields.methodOk
  cases f.p <;> cases f.m <;> simp [and_assoc, or_assoc]

/-- Legal fields are those of some command (R93). -/
theorem CommandFields.exists_fields {f : CommandFields} (h : f.wf = true) : ∃ i : Instr, i.fields = f := by
  obtain ⟨hzero, hop, hp, hm⟩ := f.wf_iff.mp h
  obtain ⟨op, zero, p, m⟩ := f
  obtain rfl : zero = 0#22 := hzero
  simp only [List.mem_cons, List.not_mem_nil, or_false] at hop
  rcases hop with rfl | rfl | rfl | rfl | rfl
  case inl =>
    obtain rfl : p = false := by simpa using hp
    obtain rfl : m = false := by simpa using hm
    exact ⟨.nop, rfl⟩
  case inr.inl =>
    obtain rfl : p = false := by simpa using hp
    exact ⟨if m then .ditherExt else .ditherOrd, by cases m <;> rfl⟩
  case inr.inr.inl =>
    obtain rfl : m = false := by simpa using hm
    exact ⟨if p then .packInv else .packDir, by cases p <;> rfl⟩
  case inr.inr.inr.inl =>
    exact ⟨if p then (if m then .runExtInv else .runOrdInv) else (if m then .runExtDir else .runOrdDir),
      by cases p <;> cases m <;> rfl⟩
  case inr.inr.inr.inr =>
    obtain rfl : p = false := by simpa using hp
    obtain rfl : m = false := by simpa using hm
    exact ⟨.srst, rfl⟩

/-- A word is legal exactly when its fields are (R91, R97). -/
theorem exists_decode_iff (w : Word) : (∃ i, decode w = .ok i) ↔ (splitWord w).wf = true := by
  constructor
  · rintro ⟨i, hi⟩
    rw [splitWord_of_decode hi]
    exact (roundTrip i).1
  · intro h
    obtain ⟨i, hi⟩ := CommandFields.exists_fields h
    exact ⟨i, decode_eq_ok_iff.mpr (by rw [encode, hi, joinFields_splitWord])⟩

/-- Settles O2: a refused word is one that is no command's, and what makes its fields illegal is spelt out. -/
theorem wordIsIllegalExactlyWhenAFieldIs : Obligations.WordIsIllegalExactlyWhenAFieldIs := by
  intro w
  have hrefused : (∃ e, decode w = .error e) ↔ ¬ (splitWord w).wf = true := by
    rw [← exists_decode_iff]
    cases decode w <;> simp
  rw [hrefused, CommandFields.wf_iff, not_and_or, not_and_or, not_and_or, Classical.not_imp, Classical.not_imp]
  rfl

/-- Settles O3: the decoder's tests on seven words. -/
theorem someWordsDecodeAsTheMapSays : Obligations.SomeWordsDecodeAsTheMapSays :=
  ⟨rfl, rfl, rfl, rfl, rfl, rfl, rfl⟩

end Sys2Proof

namespace Sys2Proof.Machine

/-! ### The host's statements (R99, R100) -/

/-- The `k`-th event of a load writes the `k`-th value at the `k`-th address. -/
theorem getElem?_loadFrom (addr : Nat → BusAddr) (n : Nat) (l : List Word) (k : Nat) :
    (loadFrom addr n l)[k]? = l[k]?.map (Event.hostWrite (addr (n + k))) := by
  induction l generalizing n k with
  | nil => rfl
  | cons v l ih =>
    cases k with
    | zero => rfl
    | succ k =>
      rw [show n + (k + 1) = n + 1 + k by omega]
      exact ih (n + 1) k

/-- One transaction a value. -/
theorem length_loadFrom (addr : Nat → BusAddr) (n : Nat) (l : List Word) : (loadFrom addr n l).length = l.length := by
  induction l generalizing n with
  | nil => rfl
  | cons v l ih => exact congrArg Nat.succ (ih (n + 1))

/-- Settles O24: the two loads element by element; the other statements are their lists. -/
theorem hostStatementsExpandToTheirTransactions : Obligations.HostStatementsExpandToTheirTransactions := by
  have hload : ∀ (addr : Nat → BusAddr) {l : List Word} {k : Nat} {v : Word}, l[k]? = some v →
      (loadFrom addr 0 l)[k]? = some (.hostWrite (addr k) v) := by
    intro addr l k v hv
    rw [getElem?_loadFrom, hv, Nat.zero_add, Option.map_some]
  exact ⟨fun l k v hv => ⟨hload imemAddr hv, hload bmemAddr hv⟩,
    fun l => ⟨length_loadFrom _ _ l, length_loadFrom _ _ l⟩, fun _ _ => rfl, rfl, fun _ => rfl⟩

end Sys2Proof.Machine

/-! ## The colorspace converter (spec/40_colorspace.md R110 to R118) -/

namespace Sys2Proof.Machine

/-! ### The table `LIN` (R112 to R114) -/

/-- Each entry of `LIN` is at least 19 above the one before it (R114). -/
theorem lin_add_le_lin_succ : ∀ c, c < 255 → lin c + 19 ≤ lin (c + 1) := by decide +kernel

/-- `LIN` is non-decreasing on codes. -/
theorem lin_mono {c d : Nat} (hcd : c ≤ d) (hd : d ≤ 255) : lin c ≤ lin d := by
  induction d, hcd using Nat.le_induction with
  | base => exact le_rfl
  | succ d _ ih =>
    have hstep := lin_add_le_lin_succ d (by omega)
    have hle := ih (by omega)
    omega

theorem lin_zero : lin 0 = 0 := by decide +kernel

theorem lin_255 : lin 255 = 65280 := by decide +kernel

theorem lin_128 : lin 128 = 14091 := by decide +kernel

/-- Settles O27: the two sides of the crossing are `LIN[187]` and `LIN[188]`, and `LIN` is non-decreasing. -/
theorem linTableIncreasesFromZeroToOne : Obligations.LinTableIncreasesFromZeroToOne := by
  have hsmallest : ∀ c, c < 255 → (lin c + 19 = lin (c + 1) ↔ c = 2 ∨ c = 8) := by decide +kernel
  have hcross : lin 187 ≤ 32640 ∧ 32640 < lin 188 := by decide +kernel
  refine ⟨lin_zero, lin_255, lin_add_le_lin_succ, hsmallest, fun c hc => ⟨fun hhalf => ?_, fun hle => ?_⟩⟩
  · by_contra hgt
    have := lin_mono (show 188 ≤ c by omega) (by omega)
    omega
  · exact (lin_mono hle (by omega)).trans hcross.1

/-! ### The thresholds and `SRGB` (R115 to R117) -/

/-- In a sorted list, the entries not above `v` are the first ones. -/
theorem lt_countP_le_iff {l : List Nat} (hl : l.Pairwise (· ≤ ·)) (v : Nat) {i : Nat} (hi : i < l.length) :
    i < l.countP (fun t => t ≤ v) ↔ l[i] ≤ v := by
  induction l generalizing i with
  | nil => simp at hi
  | cons a l ih =>
    obtain ⟨hhead, htail⟩ := List.pairwise_cons.mp hl
    by_cases hav : a ≤ v
    · rw [List.countP_cons_of_pos (by simpa using hav)]
      cases i with
      | zero => simpa using hav
      | succ i => simpa using ih htail (by simpa using hi)
    · have hall : ∀ t ∈ a :: l, v < t := by
        rintro t (_ | ⟨_, ht⟩)
        · omega
        · have := hhead t ht; omega
      have hzero : (a :: l).countP (fun t => t ≤ v) = 0 :=
        List.countP_eq_zero.mpr fun t ht => by simpa using hall t ht
      have hentry := hall _ (List.getElem_mem hi)
      omega

theorem thresholdTable_sorted : thresholdTable.Pairwise (· ≤ ·) := by
  have hstrict : thresholdTable.IsChain (· < ·) := by decide +kernel
  exact hstrict.pairwise.imp le_of_lt

/-- `SRGB` lands on codes. -/
theorem srgb_le (v : Nat) : srgb v ≤ 255 :=
  thresholdTable_length ▸ List.countP_le_length

/-- `SRGB(v)` reaches `k` exactly from `T[k]` on (R115). -/
theorem le_srgb_iff (v : Nat) {k : Nat} (hk : 1 ≤ k) (hk' : k ≤ 255) : k ≤ srgb v ↔ threshold k ≤ v := by
  have hi : k - 1 < thresholdTable.length := by rw [thresholdTable_length]; omega
  rw [threshold, List.getD_eq_getElem _ _ hi, ← lt_countP_le_iff thresholdTable_sorted v hi, srgb]
  omega

/-- Settles O28: the table of thresholds is sorted, so the count of those not above `v` is a position in it. -/
theorem srgbReachesCodeAtItsThreshold : Obligations.SrgbReachesCodeAtItsThreshold :=
  fun v _ hk hk' => le_srgb_iff v hk hk'

theorem srgb_mono {v w : Nat} (h : v ≤ w) : srgb v ≤ srgb w :=
  List.countP_mono_left fun t _ ht => by simp only [decide_eq_true_eq] at ht ⊢; omega

/-- `LIN[c]` lies from `T[c]` on and below `T[c + 1]` (R117). -/
theorem threshold_le_lin : ∀ c, c ≤ 255 → 1 ≤ c → threshold c ≤ lin c := by decide +kernel

theorem lin_lt_threshold_succ : ∀ c, c < 255 → lin c < threshold (c + 1) := by decide +kernel

/-- The round trip on codes is exact (R117). -/
theorem srgb_lin {c : Nat} (hc : c ≤ 255) : srgb (lin c) = c := by
  apply Nat.le_antisymm
  · by_contra hgt
    have hmax := srgb_le (lin c)
    have hnext := (le_srgb_iff (lin c) (k := c + 1) (by omega) (by omega)).mp (by omega)
    have := lin_lt_threshold_succ c (by omega)
    omega
  · rcases Nat.eq_zero_or_pos c with rfl | hpos
    · exact Nat.zero_le _
    · exact (le_srgb_iff (lin c) hpos hc).mpr (threshold_le_lin c hc hpos)

/-- `SRGB` at a value of the table `LIN`, by the round trip. -/
theorem srgb_of_lin_eq {c v : Nat} (hc : c ≤ 255) (hv : lin c = v) : srgb v = c := hv ▸ srgb_lin hc

/-- Settles O29: 0 and ONE are the values of the codes 0 and 255, so the ends are round trips too. -/
theorem srgbInvertsLinOnCodes : Obligations.SrgbInvertsLinOnCodes :=
  ⟨srgb_of_lin_eq (by omega) lin_zero, srgb_of_lin_eq (by omega) lin_255, fun _ _ => srgb_mono,
    fun _ hc => srgb_lin (by omega)⟩

/-! ### The lookup port (R118) -/

/-- `clamp` is the rule's `max(lo, min(v, hi))` (R8). -/
theorem clamp_eq_max_min (v : Int) {lo hi : Int} (h : lo ≤ hi) : clamp v lo hi = max lo (min v hi) := by
  unfold clamp
  split
  · omega
  · split <;> omega

/-- Settles O30: the write stores the word, and the two reads are the tables at that word clamped. -/
theorem lookupPortEvaluatesBothFunctions : Obligations.LookupPortEvaluatesBothFunctions := by
  refine ⟨fun s d => ⟨_, hostWrite_regAddr .cscin d s, ?_, ?_⟩, lin_128, srgb_of_lin_eq (by omega) lin_128, lin_zero,
    srgb_of_lin_eq (by omega) lin_zero, lin_255, by decide +kernel, srgb_of_lin_eq (by omega) lin_255⟩
  · rw [hostRead_regAddr, ← clamp_eq_max_min _ (by decide)]; rfl
  · rw [hostRead_regAddr, ← clamp_eq_max_min _ (by decide)]; rfl

/-! ### The tables against the real functions (R110, R112, R115)

A power with exponent `p / q` is compared through its `q`-th power, which is rational; so "the rounded real value
is at least `n`" becomes a comparison of integers, decidable for every entry of a table. -/

/-- The `q`-th power of `x ^ (p / q)`. -/
theorem rpow_pow_eq_pow {x r : ℝ} {p q : ℕ} (hx : 0 ≤ x) (hr : r * q = p) : (x ^ r) ^ q = x ^ p := by
  rw [← Real.rpow_mul_natCast hx, hr, Real.rpow_natCast]

/-- A quotient is at most `b` up to the integer part of `b * q`. -/
theorem natCast_div_le_iff {q b : ℝ} {m : ℕ} (hq : 0 < q) (hm : m ≤ b * q) (hm' : b * q < m + 1) (n : ℕ) :
    (n : ℝ) / q ≤ b ↔ n ≤ m := by
  have hnonneg : 0 ≤ b * q := (Nat.cast_nonneg m).trans hm
  rw [div_le_iff₀ hq, ← Nat.le_floor_iff hnonneg, (Nat.floor_eq_iff hnonneg).mpr ⟨hm, hm'⟩]

/-- A code lies on the first branch of `toLinear` up to 10 (R112). -/
theorem code_first_branch_iff (c : ℕ) : (c : ℝ) / 255 ≤ 0.04045 ↔ c ≤ 10 :=
  natCast_div_le_iff (by norm_num) (by norm_num) (by norm_num) c

/-- The integer form of "`toLinear(c / 255)` in working units, rounded half up, is at least `n`". -/
def LinearAtLeast (n : ℤ) (c : ℕ) : Prop :=
  if c ≤ 10 then 646 * n ≤ 12800 * c + 323 else (2 * n - 1) ^ 5 * 10761 ^ 12 ≤ (40 * c + 561) ^ 12 * 130560 ^ 5

/-- The real function on a code is compared by `LinearAtLeast` (R112). -/
theorem le_toLinear_iff {c : ℕ} {y : ℝ} (hy : IsToLinear ((c : ℝ) / 255) y) (n : ℤ) :
    (n : ℝ) ≤ 65280 * y + 1 / 2 ↔ LinearAtLeast n c := by
  unfold LinearAtLeast
  split
  · rename_i hc
    rw [IsToLinear, if_pos ((code_first_branch_iff c).mpr hc)] at hy
    have hscale : (65280 : ℝ) * (c / 255 / 12.92) = 6400 / 323 * c := by ring
    rw [hy, hscale, ← @Int.cast_le ℝ]
    push_cast
    constructor <;> intro h <;> linarith
  · rename_i hc
    rw [IsToLinear, if_neg fun h => hc ((code_first_branch_iff c).mp h)] at hy
    have hx : ((c : ℝ) / 255 + 0.055) / 1.055 = (40 * c + 561) / 10761 := by ring
    have hpow : y ^ 5 = ((40 * (c : ℝ) + 561) / 10761) ^ 12 := by
      rw [hy, hx, rpow_pow_eq_pow (p := 12) (by positivity) (by norm_num)]
    calc (n : ℝ) ≤ 65280 * y + 1 / 2 ↔ (2 * (n : ℝ) - 1) / 130560 ≤ y := by
          rw [div_le_iff₀ (by norm_num)]; constructor <;> intro h <;> linarith
      _ ↔ ((2 * (n : ℝ) - 1) / 130560) ^ 5 ≤ y ^ 5 := (Odd.pow_le_pow (by decide)).symm
      _ ↔ (2 * (n : ℝ) - 1) ^ 5 * 10761 ^ 12 ≤ (40 * c + 561) ^ 12 * 130560 ^ 5 := by
          rw [hpow, div_pow, div_pow, div_le_div_iff₀ (by positivity) (by positivity)]
      _ ↔ (2 * n - 1) ^ 5 * 10761 ^ 12 ≤ (40 * c + 561) ^ 12 * 130560 ^ 5 := by norm_cast

/-- Every entry of `LIN` is the greatest integer that the rounded function reaches (R112, R113). -/
theorem linearAtLeast_lin : ∀ c, c < 256 → LinearAtLeast (lin c) c ∧ ¬ LinearAtLeast (lin c + 1) c := by
  unfold LinearAtLeast; decide +kernel

/-- Settles O31: the comparison of `le_toLinear_iff`, made at each entry and at its successor. -/
theorem linIsTheRoundedRealFunction : Obligations.LinIsTheRoundedRealFunction := by
  refine ⟨fun c y hc hy => ?_, fun c _ => lin_le c, fun c _ => code_first_branch_iff c, lin_128⟩
  obtain ⟨hreached, hnext⟩ := linearAtLeast_lin c hc
  rw [← le_toLinear_iff hy] at hreached hnext
  refine (Int.floor_eq_iff.mpr ⟨hreached, ?_⟩).symm
  simpa using hnext

/-- A value lies on the first branch of `toSrgb` up to 204 (R115). -/
theorem value_first_branch_iff (v : ℕ) : (v : ℝ) / 65280 ≤ 0.0031308 ↔ v ≤ 204 :=
  natCast_div_le_iff (by norm_num) (by norm_num) (by norm_num) v

/-- The integer form of "`toSrgb(v / ONE)` as a code, rounded half up, is at least `k`". -/
def SrgbAtLeast (k v : ℕ) : Prop :=
  if v ≤ 204 then 6400 * k ≤ 323 * v + 3200 else (40 * k + 541) ^ 12 * 65280 ^ 5 ≤ v ^ 5 * 10761 ^ 12

/-- The real function on a working-unit value is compared by `SrgbAtLeast` (R115). -/
theorem le_toSrgb_iff {v : ℕ} {y : ℝ} (hy : IsToSrgb ((v : ℝ) / 65280) y) (k : ℕ) :
    (k : ℝ) ≤ 255 * y + 1 / 2 ↔ SrgbAtLeast k v := by
  unfold SrgbAtLeast
  split
  · rename_i hv
    rw [IsToSrgb, if_pos ((value_first_branch_iff v).mpr hv)] at hy
    rw [hy, ← @Nat.cast_le ℝ]
    push_cast
    constructor <;> intro h <;> linarith
  · rename_i hv
    rw [IsToSrgb, if_neg fun h => hv ((value_first_branch_iff v).mp h)] at hy
    have hpow : (((v : ℝ) / 65280) ^ (1 / 2.4 : ℝ)) ^ 12 = ((v : ℝ) / 65280) ^ 5 :=
      rpow_pow_eq_pow (by positivity) (by norm_num)
    generalize hz : ((v : ℝ) / 65280) ^ (1 / 2.4 : ℝ) = z at hy hpow
    have hz0 : 0 ≤ z := hz ▸ by positivity
    calc (k : ℝ) ≤ 255 * y + 1 / 2 ↔ (40 * (k : ℝ) + 541) / 10761 ≤ z := by
          rw [hy, div_le_iff₀ (by norm_num)]; constructor <;> intro h <;> linarith
      _ ↔ ((40 * (k : ℝ) + 541) / 10761) ^ 12 ≤ z ^ 12 :=
          (pow_le_pow_iff_left₀ (by positivity) hz0 (by decide)).symm
      _ ↔ (40 * (k : ℝ) + 541) ^ 12 * 65280 ^ 5 ≤ v ^ 5 * 10761 ^ 12 := by
          rw [hpow, div_pow, div_pow, div_le_div_iff₀ (by positivity) (by positivity)]
      _ ↔ (40 * k + 541) ^ 12 * 65280 ^ 5 ≤ v ^ 5 * 10761 ^ 12 := by norm_cast

/-- A reached code stays reached. Across the branches: the first one reaches at most 10, up to 204, and the second
reaches 10 from 205 on. -/
theorem SrgbAtLeast.mono {k v w : ℕ} (h : SrgbAtLeast k v) (hvw : v ≤ w) : SrgbAtLeast k w := by
  unfold SrgbAtLeast at h ⊢
  by_cases hw : w ≤ 204
  · rw [if_pos (by omega)] at h; rw [if_pos hw]; omega
  · rw [if_neg hw]
    have hpow : ∀ {u : ℕ}, u ≤ w → u ^ 5 * 10761 ^ 12 ≤ w ^ 5 * 10761 ^ 12 := fun hu =>
      Nat.mul_le_mul_right _ (Nat.pow_le_pow_left hu 5)
    by_cases hv : v ≤ 204
    · rw [if_pos hv] at h
      calc (40 * k + 541) ^ 12 * 65280 ^ 5
          ≤ 941 ^ 12 * 65280 ^ 5 := Nat.mul_le_mul_right _ (Nat.pow_le_pow_left (by omega) 12)
        _ ≤ 205 ^ 5 * 10761 ^ 12 := by norm_num
        _ ≤ w ^ 5 * 10761 ^ 12 := hpow (by omega)
    · rw [if_neg hv] at h; exact h.trans (hpow hvw)

/-- Every threshold is the least value at which the rounded function reaches its code (R115, R116). -/
theorem srgbAtLeast_threshold : ∀ k, k ≤ 255 → 1 ≤ k →
    SrgbAtLeast k (threshold k) ∧ ¬ SrgbAtLeast k (threshold k - 1) := by
  unfold SrgbAtLeast; decide +kernel

theorem srgbAtLeast_iff (v : ℕ) {k : ℕ} (hk : 1 ≤ k) (hk' : k ≤ 255) : SrgbAtLeast k v ↔ threshold k ≤ v := by
  obtain ⟨hreached, hbefore⟩ := srgbAtLeast_threshold k hk' hk
  refine ⟨fun h => ?_, hreached.mono⟩
  by_contra hlt
  exact hbefore (h.mono (by omega))

/-- A threshold is at most the value of its code, which is at most ONE. -/
theorem threshold_le {k : ℕ} (hk : 1 ≤ k) (hk' : k ≤ 255) : threshold k ≤ 65280 :=
  (threshold_le_lin k hk' hk).trans (lin_le k)

/-- A code that reaches the same `k` from 1 to 255 as an integer does is that integer clamped. -/
theorem eq_clamp_of_le_iff {n : ℕ} {f : ℤ} (hn : n ≤ 255)
    (h : ∀ k : ℕ, 1 ≤ k → k ≤ 255 → (k ≤ n ↔ (k : ℤ) ≤ f)) : (n : ℤ) = max 0 (min f 255) := by
  have hself : 1 ≤ n → (n : ℤ) ≤ f := fun hpos => (h n hpos hn).mp le_rfl
  have hnext : n < 255 → f < n + 1 := fun hlt => by
    have := h (n + 1) (by omega) (by omega)
    push_cast at this
    omega
  omega

/-- Settles O32: both sides reach `k` exactly from `T[k]` on, the table by `le_srgb_iff` and the real function by
`le_toSrgb_iff` and `srgbAtLeast_iff`. -/
theorem srgbIsTheRoundedRealFunction : Obligations.SrgbIsTheRoundedRealFunction := by
  refine ⟨fun v y _ hy => ?_, fun k => threshold_le, by decide +kernel, by decide +kernel, by decide +kernel,
    srgb_of_lin_eq (by omega) lin_128⟩
  have hreach : ∀ k : ℕ, 1 ≤ k → k ≤ 255 → ((k : ℤ) ≤ ⌊255 * y + 1 / 2⌋ ↔ threshold k ≤ v) := by
    intro k hk hk'
    rw [Int.le_floor, Int.cast_natCast, le_toSrgb_iff hy, srgbAtLeast_iff v hk hk']
  exact ⟨eq_clamp_of_le_iff (srgb_le v) fun k hk hk' => (le_srgb_iff v hk hk').trans (hreach k hk hk').symm, hreach⟩

end Sys2Proof.Machine

/-! ## What one visit deposits, by offset (spec/41_dither.md R136, R137, R141) -/

namespace Sys2Proof.Machine

/-- Settles O39: each truncation loses less than one unit toward zero, so the four shares of ORD lose less than four
together, and none is lost where the divisor divides the error. -/
theorem depositedTotalIsTheErrorUpToTruncation : Obligations.DepositedTotalIsTheErrorUpToTruncation := by
  intro e d hd
  have h7 := tdiv_sixteen (7 * e)
  have h3 := tdiv_sixteen (3 * e)
  have h5 := tdiv_sixteen (5 * e)
  have h1 := tdiv_sixteen e
  have h8 := tdiv_eight e
  rcases le_total 0 e with he | he
  · have hnonneg : 0 ≤ d := by omega
    have hnonneg' : 0 ≤ tdiv e 8 := by omega
    rw [abs_of_nonneg he, abs_of_nonneg hnonneg, abs_of_nonneg (show 0 ≤ 8 * (6 * tdiv e 8) by omega),
      abs_of_nonneg (show 0 ≤ 6 * e by omega), abs_of_nonneg (show 0 ≤ 6 * e - 8 * (6 * tdiv e 8) by omega)]
    omega
  · have hnonpos : d ≤ 0 := by omega
    have hnonpos' : tdiv e 8 ≤ 0 := by omega
    rw [abs_of_nonpos he, abs_of_nonpos hnonpos, abs_of_nonpos (show 8 * (6 * tdiv e 8) ≤ 0 by omega),
      abs_of_nonpos (show 6 * e ≤ 0 by omega), abs_of_nonpos (show 6 * e - 8 * (6 * tdiv e 8) ≤ 0 by omega)]
    omega

/-- What a visit with error `e` adds to the cell at offset (dx, dy) from the visited pixel (R136, R137). -/
def shareAt (m : Method) (e dx dy : Int) : Int :=
  match m with
  | .ord => ordShareAt e dx dy
  | .ext => extShareAt e dx dy

/-- The share of an offset is the sum of the kernel's entries at that offset: no two entries have the same. -/
theorem sum_sharesOf_at (m : Method) (e dx dy : Int) :
    ((sharesOf m e).map fun c => if dx = c.dx ∧ dy = c.dy then c.d else 0).sum = shareAt m e dx dy := by
  cases m with
  | ord =>
    simp only [sharesOf, ordShares, shareAt, ordShareAt, List.map_cons, List.map_nil, List.sum_cons, List.sum_nil]
    split_ifs <;> omega
  | ext =>
    simp only [sharesOf, extShares, shareAt, extShareAt, List.map_cons, List.map_nil, List.sum_cons, List.sum_nil]
    split_ifs <;> omega

/-- A visit deposits ahead of itself only: nothing on a pixel of an earlier row, nor on one to the left in its own
row, nor on itself (R135). -/
theorem shareAt_behind (m : Method) (e : Int) {dx dy : Int} (h : dy < 0 ∨ dy = 0 ∧ dx ≤ 0) :
    shareAt m e dx dy = 0 := by
  cases m
  · simp only [shareAt, ordShareAt]; split_ifs <;> omega
  · exact if_neg (by omega)

variable {s t u : State}

/-- No share lands outside the frame (R134). -/
theorem gainAt_outside (x y : Int) (l : List Share) {j : Nat} (hj : s.cols * s.rows ≤ j) : gainAt s x y l j = 0 := by
  refine List.sum_eq_zero fun v hv => ?_
  obtain ⟨c, -, rfl⟩ := List.mem_map.mp hv
  refine if_neg fun hlands => ?_
  have hlt := inFrame_index_lt hlands.1
  rw [hlands.2, Int.toNat_natCast] at hlt
  omega

/-- Two places of a frame with one linear index are the same place (R10). -/
theorem place_ext {w x y a b : Int} (hx : 0 ≤ x) (hxw : x < w) (ha : 0 ≤ a) (haw : a < w) :
    y * w + x = b * w + a ↔ x = a ∧ y = b := by
  refine ⟨fun h => ?_, fun ⟨hxa, hyb⟩ => by rw [hxa, hyb]⟩
  have hxa : x = a := by
    rw [← Int.emod_eq_of_lt hx hxw, ← Int.emod_eq_of_lt ha haw, ← Int.mul_add_emod_self_right y w x, h]
    exact Int.mul_add_emod_self_right b w a
  refine ⟨hxa, Int.eq_of_mul_eq_mul_right (show w ≠ 0 by omega) ?_⟩
  omega

/-- Inside the frame a cell gains the share of its offset from the visited pixel. -/
theorem gainAt_inside {a b : Nat} (ha : a < s.cols) (hb : b < s.rows) (x y : Int) (m : Method) (e : Int) :
    gainAt s x y (sharesOf m e) (b * s.cols + a) = shareAt m e (a - x) (b - y) := by
  have hcols : (s.cols : Int) = s.frameW := Int.toNat_of_nonneg (by unfold State.cols at ha; omega)
  have hrows : (s.rows : Int) = s.frameH := Int.toNat_of_nonneg (by unfold State.rows at hb; omega)
  have hshare : ∀ c : Share, c.gainAt s x y (b * s.cols + a) =
      if (a : Int) - x = c.dx ∧ (b : Int) - y = c.dy then c.d else 0 := by
    intro c
    refine if_congr ?_ rfl rfl
    simp only [State.inFrame, Bool.and_eq_true, decide_eq_true_eq]
    push_cast
    rw [← hcols, ← hrows]
    constructor
    · rintro ⟨⟨⟨⟨hx, hxw⟩, -⟩, -⟩, hindex⟩
      have := (place_ext hx hxw (by omega) (by omega)).mp hindex
      omega
    · rintro ⟨hdx, hdy⟩
      obtain ⟨hx, hy⟩ : x + c.dx = a ∧ y + c.dy = b := by omega
      rw [hx, hy]
      omega
  rw [← sum_sharesOf_at, gainAt, funext hshare]

end Sys2Proof.Machine

/-! ## One engine step of a dither stage (spec/41_dither.md R131 to R137) -/

namespace Sys2Proof.Machine

variable {s t u : State}

/-- After its work a step writes only STATUS and the cursor (R180). -/
theorem endStep_advance_frame (s : State) (lim : Nat) :
    ∃ st cx cy, endStep (s.advance lim) = { s with status := st, curx := cx, cury := cy } := by
  obtain ⟨st, cx, cy, h⟩ := endStep_frame (s.advance lim)
  rw [h, State.advance_frame]
  exact ⟨st, cx, cy, rfl⟩

/-- A busy engine that is ready and can do its work answers a state with that work done (R180). -/
theorem engineStep_of_phaseWork (hb : s.busy = true) (hr : s.engineReady = true) (h : phaseWork s = some u) :
    ∃ st cx cy, engineStep s = .next { u with status := st, curx := cx, cury := cy } := by
  obtain ⟨st, cx, cy, he⟩ := endStep_advance_frame u s.limit
  exact ⟨st, cx, cy, (engineStep_busy_iff hb).mpr ⟨hr, u, h, he.symm⟩⟩

/-- The work of a SEED step is one write, of the seed of the code at the cursor (R131). -/
theorem phaseWork_seed (hp : s.phase = .seed) : phaseWork s =
    some (s.writeWbuf s.cursorIndex (BitVec.ofNat 18 (seedOf s.method (s.imemAt s.cursorIndex)))) := by
  simp only [phaseWork, hp]

/-- Settles O34: the work of a SEED step is one write, of a seed that fits the cell. -/
theorem seedStepSeedsOneCell : Obligations.SeedStepSeedsOneCell := by
  intro s hb hr hp
  obtain ⟨st, cx, cy, hstep⟩ := engineStep_of_phaseWork hb hr (phaseWork_seed hp)
  have hcell := s.wbufAt_writeWbuf s.cursorIndex (v := BitVec.ofNat 18 (seedOf s.method (s.imemAt s.cursorIndex)))
  have hseed := (hcell s.cursorIndex).trans ((if_pos rfl).trans (seedOf_toInt _ _))
  refine ⟨_, hstep, fun hm => hseed.trans ?_, fun hm => hseed.trans ?_,
    fun j hj => (hcell j).trans (if_neg hj), rfl⟩
  · rw [hm, seedOf]; push_cast; rfl
  · rw [hm, seedOf]

/-- The work of a visit on cells in range: the decision at the cursor, and each cell's gain from the error there
(R132, R133). -/
theorem phaseWork_visit (hr : s.engineReady = true) (hp : s.phase = .diffuse) (hcells : s.cellsInRange) :
    ∃ u, phaseWork s = some u ∧
      (∀ j, u.bmemAt j = if j = s.cursorIndex then decision (s.wbufAt s.cursorIndex) else s.bmemAt j) ∧
      (∀ j, u.wbufAt j = s.wbufAt j +
        gainAt s s.x s.y (sharesOf s.method (quantError (s.wbufAt s.cursorIndex))) j) ∧
      u = { s with wbuf := u.wbuf, bmem := u.bmem } := by
  obtain ⟨-, hlt⟩ := cursorIndex_scan hr (by simp [hp])
  obtain ⟨-, u, hu, hgain⟩ := visit_gain hcells hlt s.x s.y (decision (s.wbufAt s.cursorIndex))
  have hbits := s.bmemAt_writeBmem s.cursorIndex (v := decision (s.wbufAt s.cursorIndex))
  refine ⟨u, by simp only [phaseWork, hp, hu], ?_, hgain, ?_⟩
  all_goals obtain ⟨m, rfl⟩ := depositAll_frame hu
  · exact hbits
  · rfl

/-- One visit, under either method: it completes, decides the pixel at the cursor, and each cell of the frame gains
the share of its offset from that pixel (R132 to R137). -/
theorem engineStep_visit (hb : s.busy = true) (hr : s.engineReady = true) (hp : s.phase = .diffuse)
    (hcells : s.cellsInRange) :
    ∃ t, engineStep s = .next t ∧
      t.bmemAt s.cursorIndex = decision (s.wbufAt s.cursorIndex) ∧
      (∀ j, j ≠ s.cursorIndex → t.bmemAt j = s.bmemAt j) ∧
      (∀ a b : Nat, a < s.cols → b < s.rows →
        t.wbufAt (b * s.cols + a) = s.wbufAt (b * s.cols + a) +
          shareAt s.method (quantError (s.wbufAt s.cursorIndex)) ((a : Int) - s.x) ((b : Int) - s.y)) ∧
      (∀ j, s.cols * s.rows ≤ j → t.wbufAt j = s.wbufAt j) ∧
      t = { s with status := t.status, curx := t.curx, cury := t.cury, wbuf := t.wbuf, bmem := t.bmem } := by
  obtain ⟨u, hu, hbits, hgain, hframe⟩ := phaseWork_visit hr hp hcells
  obtain ⟨st, cx, cy, hstep⟩ := engineStep_of_phaseWork hb hr hu
  refine ⟨_, hstep, (hbits _).trans (if_pos rfl), fun j hj => (hbits j).trans (if_neg hj),
    fun a b ha hb => ?_, fun j hj => ?_, ?_⟩
  · rw [← gainAt_inside ha hb]; exact hgain _
  · exact (hgain j).trans (by rw [gainAt_outside _ _ _ hj, add_zero])
  · rw [hframe]

/-- Settles O35: `engineStep_visit` with the ORD kernel. -/
theorem ordVisitDecidesAndDepositsFourShares : Obligations.OrdVisitDecidesAndDepositsFourShares := by
  rintro s v e hb hr hp hm hcells rfl rfl
  have hvisit := engineStep_visit hb hr hp hcells
  rwa [hm] at hvisit

/-- Settles O36: `engineStep_visit` with the EXT kernel. -/
theorem extVisitDecidesAndDepositsSixShares : Obligations.ExtVisitDecidesAndDepositsSixShares := by
  rintro s v e hb hr hp hm hcells rfl rfl
  have hvisit := engineStep_visit hb hr hp hcells
  rwa [hm] at hvisit

end Sys2Proof.Machine

/-! ## The range of the cells along a dither stage (spec/41_dither.md R140) -/

namespace Sys2Proof.Machine

variable {s t u : State}

/-- The engine of a sound state stays sound, however many steps it takes. -/
theorem State.Sound.engineRun {k : Nat} (hs : s.Sound) (h : engineRun k s = .next t) : t.Sound := by
  induction k generalizing s with
  | zero => cases h; exact hs
  | succ k ih =>
    obtain ⟨u, hu, hrest⟩ := engineRun_succ h
    obtain ⟨u', hu', hsound⟩ := hs.engineStep
    cases hu.symm.trans hu'
    exact ih hsound hrest

/-- A command with a dither stage has a stage. -/
theorem staged_of_hasDither {i : Instr} (h : hasDither (encode i) = true) : i ∈ stagedInstrs := by
  revert h; cases i <;> decide

/-- In the phases of a command with a dither stage after SEED, and at its end, all cells are in range (R140). -/
theorem State.Sound.cellsInRange (hs : s.Sound) (hd : hasDither s.actcmd = true) (hp : s.phase ≠ .seed) :
    s.cellsInRange := by
  have hrange := hs.range
  cases hq : s.phase with
  | seed => exact absurd hq hp
  | diffuse => rw [hq] at hrange; exact hrange.cellsInRange
  | pack => rw [hq] at hrange; exact hrange hd
  | idle => rw [hq] at hrange; exact hrange hd

/-- Settles O41: a run from acceptance stays sound, and a sound state's cells are in range for its phase. -/
theorem ditherStageKeepsCellsInRange : Obligations.DitherStageKeepsCellsInRange := by
  intro s u t i k hb hl hd hu hrun
  rw [exec_staged (staged_of_hasDither hd) hb hl] at hu
  cases hu
  have hsound := (State.Sound.begin hl (.inl hd)).engineRun hrun
  obtain ⟨hcols, hrows, hactcmd, -⟩ := engineRun_latched hrun
  rw [State.cols_begin] at hcols
  rw [State.rows_begin] at hrows
  rw [State.begin_actcmd] at hactcmd
  refine ⟨fun hp j hj => ?_, fun hp => ?_⟩
  · have hbusy : t.busy = true := (t.busyOk_iff.mp hsound.busyPhase).mpr (by simp [hp])
    have hready := (t.runningOk_iff.mp hsound.running hbusy).ready
    obtain ⟨hpos, -⟩ := cursorIndex_scan hready (by simp [hp])
    have hrange := hsound.range
    rw [hp] at hrange
    exact hrange j (hpos ▸ hj)
  · have hcells := hsound.cellsInRange (hactcmd.symm ▸ hd) hp
    refine ⟨hcells, fun j hj => ?_⟩
    rw [← hcols, ← hrows] at hj
    exact quantError_range (hcells j hj).1 (hcells j hj).2

end Sys2Proof.Machine

/-! ## The gather form (spec/41_dither.md R138, R139, R142) -/

namespace Sys2Proof.Machine

/-! ### The gather form, one known error after another (R142) -/

section Gather

/-- What pixel `j` takes from its source at offset (dx, dy), the place from which that offset leads to it (R142). -/
def sourceAt (errs : List Int) (w h j : Nat) (dx dy : Int) (f : Int → Int) : Int :=
  sourceTerm errs w h ((j % w : Nat) - dx) ((j / w : Nat) - dy) f

/-- The gather form of either method, its terms in the order of the kernel's shares. -/
theorem gatherFrom_eq_sourceAt (m : Method) (w h : Nat) (seed : Nat → Int) (errs : List Int) (j : Nat) :
    gatherFrom m w h seed errs j = seed j +
      match m with
      | .ord => sourceAt errs w h j 1 0 (fun e => tdiv (7 * e) 16) +
          sourceAt errs w h j (-1) 1 (fun e => tdiv (3 * e) 16) + sourceAt errs w h j 0 1 (fun e => tdiv (5 * e) 16) +
          sourceAt errs w h j 1 1 (fun e => tdiv e 16)
      | .ext => sourceAt errs w h j 1 0 (fun e => tdiv e 8) + sourceAt errs w h j 2 0 (fun e => tdiv e 8) +
          sourceAt errs w h j (-1) 1 (fun e => tdiv e 8) + sourceAt errs w h j 0 1 (fun e => tdiv e 8) +
          sourceAt errs w h j 1 1 (fun e => tdiv e 8) + sourceAt errs w h j 0 2 (fun e => tdiv e 8) := by
  cases m <;> simp only [gatherFrom, sourceAt, sub_zero, sub_neg_eq_add] <;> ring

variable {m : Method} {w h x y j n : Nat} {seed : Nat → Int} {errs : List Int}

/-- One more known error, that of the next pixel (x, y): the term of that place gets it, every other term keeps its
value. A share of no error is 0, so an error not known yet reads as none. -/
theorem sourceAt_append (hx : x < w) (hy : y < h) (hn : errs.length = y * w + x) (e dx dy : Int) {f : Int → Int}
    (hf : f 0 = 0) :
    sourceAt (errs ++ [e]) w h j dx dy f = sourceAt errs w h j dx dy f +
      if (j % w : Nat) - (x : Int) = dx ∧ (j / w : Nat) - (y : Int) = dy then f e else 0 := by
  unfold sourceAt sourceTerm
  generalize hX : ((j % w : Nat) : Int) - dx = a
  generalize hY : ((j / w : Nat) : Int) - dy = b
  by_cases hin : 0 ≤ a ∧ a < w ∧ 0 ≤ b ∧ b < h
  · rw [if_pos hin, if_pos hin]
    obtain ⟨ha, haw, hb, -⟩ := hin
    have hnonneg : 0 ≤ b * w + a := Int.add_nonneg (Int.mul_nonneg hb (by omega)) ha
    have hplace : (j % w : Nat) - (x : Int) = dx ∧ (j / w : Nat) - (y : Int) = dy ↔ (b * w + a).toNat = errs.length :=
      calc (j % w : Nat) - (x : Int) = dx ∧ (j / w : Nat) - (y : Int) = dy
        _ ↔ a = x ∧ b = y := by omega
        _ ↔ b * w + a = y * w + x := (place_ext ha haw (by omega) (by omega)).symm
        _ ↔ (b * w + a).toNat = errs.length := by
          rw [hn, ← @Nat.cast_inj Int, Int.toNat_of_nonneg hnonneg]; push_cast; rfl
    rw [if_congr hplace rfl rfl]
    generalize (b * w + a).toNat = k
    rcases Nat.lt_trichotomy k errs.length with hlt | rfl | hgt
    · rw [List.getD_append _ _ _ _ hlt, if_neg hlt.ne, add_zero]
    · rw [List.getD_append_right _ _ _ _ le_rfl, Nat.sub_self, List.getD_cons_zero,
        List.getD_eq_default _ _ le_rfl, hf, if_pos rfl, zero_add]
    · rw [List.getD_eq_default _ _ (by rw [List.length_append]; exact hgt), List.getD_eq_default _ _ hgt.le,
        if_neg hgt.ne', add_zero]
  · rw [if_neg hin, if_neg hin, if_neg (by omega), add_zero]

/-- Gathering from one more known error adds the share of its pixel: the kernel read from the receiving side is the
kernel read from the depositing side (R142). -/
theorem gatherFrom_append (hx : x < w) (hy : y < h) (hn : errs.length = y * w + x) (e : Int) :
    gatherFrom m w h seed (errs ++ [e]) j =
      gatherFrom m w h seed errs j + shareAt m e ((j % w : Nat) - x) ((j / w : Nat) - y) := by
  have happend := fun dx dy k n : Int =>
    sourceAt_append (j := j) hx hy hn e dx dy (f := fun e => tdiv (k * e) n) (by simp [tdiv])
  have happend_one := fun dx dy n : Int =>
    sourceAt_append (j := j) hx hy hn e dx dy (f := fun e => tdiv e n) (by simp [tdiv])
  rw [← sum_sharesOf_at, gatherFrom_eq_sourceAt, gatherFrom_eq_sourceAt]
  cases m <;>
    simp only [sharesOf, ordShares, extShares, List.map_cons, List.map_nil, List.sum_cons, List.sum_nil,
      happend, happend_one] <;>
    ring

/-- Before any error is known a pixel has its seed. -/
theorem gatherFrom_nil : gatherFrom m w h seed [] j = seed j := by
  have hzero : ∀ (dx dy : Int) {f : Int → Int}, f 0 = 0 → sourceAt [] w h j dx dy f = 0 := fun dx dy f hf => by
    simp [sourceAt, sourceTerm, hf]
  rw [gatherFrom_eq_sourceAt]
  cases m <;> simp [hzero, tdiv]

theorem length_gatherErrs (m : Method) (w h : Nat) (seed : Nat → Int) (n : Nat) :
    (gatherErrs m w h seed n).length = n := by
  induction n with
  | zero => rfl
  | succ n ih => rw [gatherErrs, List.length_append, ih]; rfl

/-- One more visited pixel: each pixel gathers the share of its error at their offset. -/
theorem gatherFrom_gatherErrs_succ (hx : x < w) (hy : y < h) (hn : n = y * w + x) :
    gatherFrom m w h seed (gatherErrs m w h seed (n + 1)) j =
      gatherFrom m w h seed (gatherErrs m w h seed n) j +
        shareAt m (quantError (gatherValue m w h seed n)) ((j % w : Nat) - x) ((j / w : Nat) - y) :=
  gatherFrom_append hx hy ((length_gatherErrs m w h seed n).trans hn) _

/-- Once a pixel's turn has come its value is final: later pixels deposit ahead of themselves only (R135, R142). -/
theorem gatherFrom_gatherErrs_of_le (hjn : j ≤ n) (hn : n ≤ w * h) :
    gatherFrom m w h seed (gatherErrs m w h seed n) j = gatherValue m w h seed j := by
  induction n, hjn using Nat.le_induction with
  | base => rfl
  | succ n hjn ih =>
    have hw : 0 < w := Nat.pos_of_mul_pos_right (Nat.zero_lt_of_lt hn)
    rw [gatherFrom_gatherErrs_succ (Nat.mod_lt n hw) (Nat.div_lt_of_lt_mul hn) (Nat.div_add_mod' n w).symm,
      ih (by omega), shareAt_behind, add_zero]
    have hrow : j / w ≤ n / w := Nat.div_le_div_right hjn
    have hj := Nat.div_add_mod' j w
    have hn := Nat.div_add_mod' n w
    rcases hrow.lt_or_eq with hlt | heq
    · exact .inl (by omega)
    · rw [heq] at hj
      exact .inr (by omega)

end Gather

/-! ### One phase of the engine, from its first element to its last (R24, R181) -/

variable {s t u v : State}

/-- What holds of `p` elements done and is kept by each element's work and by the cursor's moves holds of a whole
phase: from place `scanPos` a sound engine takes as many steps as there are elements left, and the last of them ends
the phase. -/
theorem State.Sound.engineRun_phase {P : Nat → State → Prop} {ph : Phase} (hidle : ph ≠ .idle)
    (hcursor : ∀ {p v}, P p v → ∀ x y, P p (v.setCursor x y))
    (hwork : ∀ {v u}, v.Sound → v.engineReady = true → v.phase = ph → phaseWork v = some u → P v.scanPos v →
      P (v.scanPos + 1) u)
    {n : Nat} (hs : s.Sound) (hp : s.phase = ph) (hn : s.scanPos + n = s.scanLen) (hP : P s.scanPos s) :
    ∃ v, Machine.engineRun n s = .next (phaseEnd v) ∧ (phaseEnd v).Sound ∧ v.phase = ph ∧ P s.scanLen v := by
  have hb : ∀ {v : State}, v.Sound → v.phase = ph → v.busy = true := fun hv hq =>
    (State.busyOk_iff _).mp hv.busyPhase |>.mpr (hq ▸ hidle)
  induction n generalizing s with
  | zero =>
    have := scanPos_lt_scanLen (s.runningOk_iff.mp hs.running (hb hs hp)).ready
    omega
  | succ n ih =>
    obtain ⟨t, hstep, ht⟩ := hs.engineStep
    obtain ⟨hready, u, hu, hcase⟩ := engineStep_busy_cases (hb hs hp) hstep
    obtain ⟨-, -, -, hlen, hup, -⟩ := phaseWork_control hu
    have hPu := hwork hs hready hp hu hP
    have hrun : Machine.engineRun (n + 1) s = Machine.engineRun n t := by simp only [Machine.engineRun, hstep]
    rw [hrun]
    rcases hcase with ⟨-, htu, hpos, -⟩ | ⟨hlast, rfl⟩
    · have htlen : t.scanLen = s.scanLen := by rw [htu, State.advance_frame, ← hlen]; rfl
      have htp : t.phase = ph := by rw [htu, State.advance_frame, State.phase_setCursor, hup, hp]
      rw [← htlen]
      refine ih ht htp (by omega) ?_
      rw [hpos, htu, State.advance_frame]
      exact hcursor hPu _ _
    · obtain rfl : n = 0 := by omega
      exact ⟨u, rfl, ht, hup.trans hp, hlast ▸ hPu⟩

/-! ### The two phases of a dither stage (R131, R132, R138, R139) -/

/-- The elements of a dither phase are the pixels of the frame. -/
theorem scanLen_eq_pixels (hp : s.phase = .seed ∨ s.phase = .diffuse) : s.scanLen = s.cols * s.rows := by
  rcases hp with hp | hp <;> simp only [State.scanLen, State.limit, hp, Nat.mul_comm]

/-- The seeds of a command in state `a` (R131). -/
def State.seeds (a : State) (j : Nat) : Int := seedOf a.method (a.imemAt j)

/-- The seeds as R131 writes them. -/
theorem State.seeds_eq_ite (a : State) (j : Nat) :
    a.seeds j = if a.method = .ord then 256 * ((a.imemAt j).toNat : Int) else (lin (a.imemAt j).toNat : Int) := by
  unfold State.seeds
  cases a.method
  · rw [if_pos rfl, seedOf]; push_cast; rfl
  · rfl

/-- `p` cells seeded since state `a`: nothing else has changed but STATUS and the cursor (R131). -/
structure Seeded (a : State) (p : Nat) (v : State) : Prop where
  frame : ∃ st cx cy wb, v = { a with status := st, curx := cx, cury := cy, wbuf := wb }
  cells : ∀ j, j < p → v.wbufAt j = a.seeds j
  outside : ∀ j, a.cols * a.rows ≤ j → v.wbufAt j = a.wbufAt j

/-- `p` pixels visited since state `a`: every cell of the frame gathers from their errors, every one of them has its
bit, and outside the frame nothing has changed, nor elsewhere but STATUS and the cursor (R142). -/
structure Visited (a : State) (p : Nat) (v : State) : Prop where
  frame : ∃ st cx cy wb bm, v = { a with status := st, curx := cx, cury := cy, wbuf := wb, bmem := bm }
  cells : ∀ j, j < a.cols * a.rows →
    v.wbufAt j = gatherFrom a.method a.cols a.rows a.seeds (gatherErrs a.method a.cols a.rows a.seeds p) j
  bits : ∀ j, j < p → v.bmemAt j = decision (gatherValue a.method a.cols a.rows a.seeds j)
  outside : ∀ j, a.cols * a.rows ≤ j → v.wbufAt j = a.wbufAt j ∧ v.bmemAt j = a.bmemAt j

variable {a : State} {p : Nat}

theorem Seeded.setCursor (h : Seeded a p v) (x y : Word) : Seeded a p (v.setCursor x y) := by
  obtain ⟨⟨_, _, _, _, rfl⟩, hcells, houtside⟩ := h
  exact ⟨⟨_, _, _, _, rfl⟩, hcells, houtside⟩

theorem Visited.setCursor (h : Visited a p v) (x y : Word) : Visited a p (v.setCursor x y) := by
  obtain ⟨⟨_, _, _, _, _, rfl⟩, hcells, hbits, houtside⟩ := h
  exact ⟨⟨_, _, _, _, _, rfl⟩, hcells, hbits, houtside⟩

theorem Visited.phaseEnd (h : Visited a p v) : Visited a p (phaseEnd v) := by
  obtain ⟨⟨_, _, _, _, _, hv⟩, hcells, hbits, houtside⟩ := h
  refine ⟨?_, by simpa using hcells, by simpa using hbits, by simpa using houtside⟩
  rw [phaseEnd_frame, hv]
  exact ⟨_, _, _, _, _, rfl⟩

/-- The end of SEED: every cell of the frame holds its seed, and no error is known yet (R142, R181). -/
theorem Seeded.visited_phaseEnd (h : Seeded a (a.cols * a.rows) v) : Visited a 0 (phaseEnd v) := by
  obtain ⟨⟨_, _, _, _, hv⟩, hcells, houtside⟩ := h
  have hbits : v.bmemAt = a.bmemAt := by rw [hv]; rfl
  refine ⟨?_, fun j hj => ?_, fun j hj => absurd hj j.not_lt_zero, fun j hj => ?_⟩
  · rw [phaseEnd_frame, hv]
    exact ⟨_, _, _, _, _, rfl⟩
  · rw [wbufAt_phaseEnd, hcells j hj, gatherErrs, gatherFrom_nil]
  · rw [wbufAt_phaseEnd, bmemAt_phaseEnd, houtside j hj, hbits]
    exact ⟨rfl, rfl⟩

/-- The work of a SEED step seeds one more cell. -/
theorem Seeded.phaseWork (hr : v.engineReady = true) (hp : v.phase = .seed) (hu : phaseWork v = some u)
    (h : Seeded a v.scanPos v) : Seeded a (v.scanPos + 1) u := by
  obtain ⟨hpos, hlt⟩ := cursorIndex_scan hr (by simp [hp])
  have hu := Option.some.inj ((phaseWork_seed hp).symm.trans hu)
  rw [hpos] at hu
  obtain ⟨⟨_, _, _, _, hv⟩, hcells, houtside⟩ := h
  have hseed : (seedOf v.method (v.imemAt v.scanPos) : Int) = a.seeds v.scanPos := by rw [hv]; rfl
  have hframe : v.cursorIndex < a.cols * a.rows := by rw [hv] at hlt ⊢; exact hlt
  have hwbuf : ∀ j, u.wbufAt j = if j = v.scanPos then a.seeds v.scanPos else v.wbufAt j := fun j => by
    rw [← hu, State.wbufAt_writeWbuf, seedOf_toInt, hseed]
  refine ⟨?_, fun j hj => ?_, fun j hj => ?_⟩
  · rw [← hu, hv]; exact ⟨_, _, _, _, rfl⟩
  · rw [hwbuf]
    split
    · subst j; rfl
    · exact hcells j (by omega)
  · rw [hwbuf, if_neg (by omega)]
    exact houtside j hj

/-- The work of a visit: the scatter of one error is one more error to gather from. -/
theorem Visited.phaseWork (hs : v.Sound) (hr : v.engineReady = true) (hp : v.phase = .diffuse)
    (hu : phaseWork v = some u) (h : Visited a v.scanPos v) : Visited a (v.scanPos + 1) u := by
  have hrange := hs.range
  rw [hp] at hrange
  obtain ⟨w, hw, hbmem, hwbuf, hkept⟩ := phaseWork_visit hr hp hrange.cellsInRange
  cases hu.symm.trans hw
  obtain ⟨hframe, hcells, hbits, houtside⟩ := h
  obtain ⟨hcols, hrows, hmethod⟩ : v.cols = a.cols ∧ v.rows = a.rows ∧ v.method = a.method := by
    obtain ⟨_, _, _, _, _, rfl⟩ := hframe; exact ⟨rfl, rfl, rfl⟩
  obtain ⟨-, hx, hy, -⟩ := v.engineReady_iff.mp hr
  obtain ⟨hpos, hlt⟩ := cursorIndex_scan hr (by simp [hp])
  have hlimit : v.limit = a.cols := by simp only [State.limit, hp, hcols]
  have hplace : v.scanPos = v.y * a.cols + v.x := by rw [State.scanPos, hlimit]
  rw [hlimit] at hx
  rw [hrows] at hy
  rw [hpos, hcols, hrows] at hlt
  have hvalue : v.wbufAt v.scanPos = gatherValue a.method a.cols a.rows a.seeds v.scanPos := hcells _ hlt
  rw [hpos, hvalue] at hbmem hwbuf
  refine ⟨?_, fun j hj => ?_, fun j hj => ?_, fun j hj => ?_⟩
  · obtain ⟨_, _, _, _, _, hv⟩ := hframe
    rw [hkept, hv]; exact ⟨_, _, _, _, _, rfl⟩
  · have hcol : j % a.cols < v.cols := hcols ▸ Nat.mod_lt j (by omega)
    have hrow : j / a.cols < v.rows := hrows ▸ Nat.div_lt_of_lt_mul hj
    have hgain := gainAt_inside hcol hrow v.x v.y v.method
      (quantError (gatherValue a.method a.cols a.rows a.seeds v.scanPos))
    rw [hcols, Nat.div_add_mod'] at hgain
    rw [hwbuf, hcells j hj, hgain, hmethod, gatherFrom_gatherErrs_succ hx hy hplace]
  · rw [hbmem]
    split
    · subst j; rfl
    · exact hbits j (by omega)
  · obtain ⟨hcell, hbit⟩ := houtside j hj
    rw [hwbuf, hbmem, gainAt_outside _ _ _ (by rw [hcols, hrows]; exact hj), add_zero, if_neg (by omega)]
    exact ⟨hcell, hbit⟩

@[simp] theorem State.wbufAt_begin (s : State) (w : Word) (j : Nat) : (s.begin w).wbufAt j = s.wbufAt j := by
  rw [State.begin_eq]; rfl

/-- A dither stage from its first SEED step: as many steps as pixels in each of its two phases, after which every
pixel of the frame is visited (R138, R139, R181). -/
theorem engineRun_ditherStage (hs : a.Sound) (hp : a.phase = .seed) (hpos : a.scanPos = 0) :
    ∃ t, engineRun (2 * (a.cols * a.rows)) a = .next t ∧ Visited a (a.cols * a.rows) t := by
  have hlen := scanLen_eq_pixels (.inl hp)
  have hstart : Seeded a a.scanPos a := ⟨⟨_, _, _, _, rfl⟩, fun j hj => by omega, fun _ _ => rfl⟩
  obtain ⟨v, hseeding, hsound, hvp, hseeded⟩ := hs.engineRun_phase (n := a.cols * a.rows) (by decide)
    Seeded.setCursor (fun _ => Seeded.phaseWork) hp (by omega) hstart
  rw [hlen] at hseeded
  have hvisited := hseeded.visited_phaseEnd
  have hdiffuse : (phaseEnd v).phase = .diffuse := by rw [phase_phaseEnd, State.nextPhase, hvp]
  have hpos' := scanPos_phaseEnd v
  have hlen' : (phaseEnd v).scanLen = a.cols * a.rows := by
    obtain ⟨_, _, _, _, _, hv⟩ := hvisited.frame
    rw [scanLen_eq_pixels (.inr hdiffuse), hv]; rfl
  obtain ⟨w, hvisiting, -, -, hdone⟩ := hsound.engineRun_phase (n := a.cols * a.rows) (by decide)
    Visited.setCursor Visited.phaseWork hdiffuse (by omega) (hpos'.symm ▸ hvisited)
  rw [hlen'] at hdone
  exact ⟨phaseEnd w, by rw [Nat.two_mul, engineRun_add hseeding, hvisiting], hdone.phaseEnd⟩

/-- Settles O42: the stage from acceptance on; at its end each pixel's turn has come, so its cell is final. -/
theorem ditherStageLeavesTheGatherForm : Obligations.DitherStageLeavesTheGatherForm := by
  intro s i m seed hb hl hd hm hseed
  obtain ⟨t, hrun, hframe, hcells, hbits, houtside⟩ := engineRun_ditherStage
    (State.Sound.begin hl (.inl hd)) (by rw [State.phase_begin, hd]; rfl) (s.scanPos_begin _)
  have hmethod : (s.begin (encode i)).method = m := by rw [State.method, State.begin_actcmd, hm]; rfl
  have hseeds : (s.begin (encode i)).seeds = seed := funext fun j => by
    rw [State.seeds_eq_ite, hmethod, State.imemAt_begin, hseed]
  rw [State.cols_begin, State.rows_begin] at hrun hcells hbits houtside
  rw [hmethod, hseeds] at hcells hbits
  refine ⟨_, t, exec_staged (staged_of_hasDither hd) hb hl, hrun, fun j hj => ⟨?_, hbits j hj⟩, fun j hj => ?_, ?_⟩
  · rw [hcells j hj, gatherFrom_gatherErrs_of_le hj.le le_rfl]
  · rw [← State.bmemAt_begin s (encode i), ← State.wbufAt_begin s (encode i)]; exact houtside j hj
  · obtain ⟨_, _, _, _, _, rfl⟩ := hframe
    exact ⟨by rw [State.begin_eq], by rw [State.begin_eq], rfl, rfl⟩

end Sys2Proof.Machine

/-! ## No run from reset stops (spec/41_dither.md R140, spec/43_control.md R180, R187) -/

namespace Sys2Proof.Machine

variable {s t u : State}

/-- The range of R140 as every run keeps it: it is a promise about a running command only, since an idle block's
dimensions may change under its cells (R70). -/
def State.RunningInRange (s : State) : Prop := s.busy = true → s.WorkInRange s.scanPos s.phase

/-- With the invariant of R49 it makes a running command sound. -/
theorem State.RunningInRange.sound (hr : s.RunningInRange) (hs : s.Inv) (hb : s.busy = true) : s.Sound :=
  ⟨hs.busyPhase, hs.running, hr hb⟩

/-- Nothing is promised of an idle block. -/
theorem State.RunningInRange.of_idle (hb : s.busy = false) : s.RunningInRange :=
  fun h => absurd (hb.symm.trans h) (by decide)

/-- The range is in the engine's view, so what the host does beside a running command keeps it (R70). -/
theorem State.RunningInRange.of_engineView (hr : s.RunningInRange) (hv : t.engineView = s.engineView) :
    t.RunningInRange := by
  have hscan : ∀ v : State, v.engineView.scanPos = v.scanPos := fun v => by
    rw [State.scanPos, v.limit_engineView]; rfl
  intro hb
  have hrange : s.engineView.WorkInRange s.engineView.scanPos s.engineView.phase := by
    rw [hscan, s.phase_engineView]
    have := hr ((State.busy_congr hv).symm.trans hb)
    cases hp : s.phase <;> rw [hp] at this <;> exact this
  rw [← hv, hscan, t.phase_engineView] at hrange
  cases hp : t.phase <;> rw [hp] at hrange <;> exact hrange

/-- A word written to CMD starts a command with nothing done yet, or leaves a running one alone (R175, R176). -/
theorem State.RunningInRange.command (hr : s.RunningInRange) {w : Word} (h : command w s = .next t) :
    t.RunningInRange := by
  unfold Machine.command at h
  split at h
  · rcases exec_cases h with ⟨k, rfl⟩ | ⟨-, hb, rfl⟩ | ⟨hi, -, hl, rfl⟩ | ⟨-, rfl⟩
    · exact hr.of_engineView (s.engineView_raise _ _)
    · exact .of_idle (by simpa using hb)
    · exact fun _ => (State.Sound.begin hl (hasStage_of_staged hi)).range
    · exact .of_idle s.busy_clearRegisters
  · cases h
    unfold illegalCommand
    split <;> exact hr.of_engineView (s.engineView_raise _ _)

/-- No write transaction moves a running command's cells (R62, R70). -/
theorem State.RunningInRange.hostWrite (hr : s.RunningInRange) {addr : BusAddr} {data : Word}
    (h : hostWrite addr data s = .next t) : t.RunningInRange := by
  rcases hostWrite_cases h with ⟨k, rfl⟩ | ⟨-, u, hu, rfl⟩ | rfl | ⟨i, c, rfl⟩ | ⟨hb, w, h, im, bm, rfl⟩
  · exact hr.of_engineView (s.engineView_raise _ _)
  · exact (hr.command hu).of_engineView rfl
  · exact hr.of_engineView (s.engineView_acknowledge data)
  · exact hr.of_engineView rfl
  · exact .of_idle hb

/-- The engine has a step, which keeps the range. -/
theorem State.RunningInRange.engineStep (hr : s.RunningInRange) (hs : s.Inv) :
    ∃ t, engineStep s = .next t ∧ t.RunningInRange := by
  cases hb : s.busy with
  | false => exact ⟨s, engineStep_idle hb, hr⟩
  | true =>
    obtain ⟨t, ht, hsound⟩ := (hr.sound hs hb).engineStep
    exact ⟨t, ht, fun _ => hsound.range⟩

/-- Every event answers a state and keeps the range. -/
theorem State.RunningInRange.runEvent (hr : s.RunningInRange) (hs : s.Inv) (e : Event) :
    ∃ t, runEvent e s = .next t ∧ t.RunningInRange := by
  cases e with
  | hostRead addr => exact ⟨_, rfl, hr.of_engineView (engineView_hostRead addr s)⟩
  | hostWrite addr data =>
    obtain ⟨t, ht⟩ := hostWrite_next addr data s
    exact ⟨t, ht, hr.hostWrite ht⟩
  | platformReset => exact ⟨_, rfl, .of_idle s.busy_clearRegisters⟩
  | engineTurn => exact hr.engineStep hs
  | wait =>
    simp only [Machine.runEvent]
    split
    · obtain ⟨t, ht, hrange⟩ := hr.engineStep hs
      exact ⟨{ t with pending := .wait :: t.pending }, by rw [ht, mapNext_next], hrange.of_engineView rfl⟩
    · exact ⟨_, rfl, hr.of_engineView (engineView_hostRead _ s)⟩

/-- Every step answers a state and keeps the range. -/
theorem State.RunningInRange.step (hr : s.RunningInRange) (hs : s.Inv) :
    ∃ t, step s = .next t ∧ t.RunningInRange := by
  cases hp : s.pending with
  | nil => rw [step_nil hp]; exact hr.engineStep hs
  | cons e rest =>
    rw [step_cons hp]
    exact State.RunningInRange.runEvent (s := { s with pending := rest }) hr (hs.withPending rest) e

/-- A block that satisfies the invariant and keeps a running command's cells in range never stops. -/
theorem coreRun_answers (hs : s.Inv) (hr : s.RunningInRange) (k : Nat) : ∃ t, Host.Core.run core k s = .next t := by
  induction k generalizing s with
  | zero => exact ⟨s, rfl⟩
  | succ k ih =>
    obtain ⟨u, hu, hrange⟩ := hr.step hs
    rw [coreRun_succ hu]
    exact ih (hs.step hu) hrange

/-- Settles O52: reset satisfies the invariant of R49 and is idle, and every step keeps both promises. -/
theorem noRunFromResetEverStops : Obligations.NoRunFromResetEverStops := fun q l k =>
  coreRun_answers ((State.inv_iff _).mp (resetSatisfiesTheInvariant q l)) (.of_idle BitVec.getLsbD_zero) k

end Sys2Proof.Machine

/-! ## The bit packer (spec/42_pack.md R161 to R165) -/

namespace Sys2Proof.Machine

variable {a s t u v : State} {p : Nat}

/-! ### One packed byte (R161, R162) -/

/-- The packer's bit is the one that R165 asks for: a pixel through the polarity, or padding. -/
theorem packedBit_eq_bitval (s : State) (r px : Nat) :
    packedBit s r px = BitVec.ofBool (bitval s.polarity s.cols s.bmemAt r px) := by
  unfold packedBit bitval
  by_cases hpx : px < s.cols
  · rw [if_pos hpx, if_pos hpx]
    generalize s.bmemAt (r * s.cols + px) = v
    revert v
    cases s.polarity <;> decide
  · rw [if_neg hpx, if_neg hpx]
    rfl

/-- Eight bits added up at falling places are the number with those bits, the first bit the most significant. -/
theorem foldl_msbFirst (f : Nat → Bool) :
    (List.range 8).foldl (fun byte p => byte + ((f p).toNat <<< (7 - p))) 0 =
      Nat.ofBits fun i : Fin 8 => f (7 - i) := by
  simp only [List.range, List.range.loop, List.foldl, Nat.ofBits, Fin.foldr_succ, Fin.foldr_zero, Nat.shiftLeft_eq,
    Fin.val_succ, Fin.val_zero, Nat.reduceAdd, Nat.reduceSub]
  omega

/-- Pixel `8b + p` of row `r` lands in bit `7 - p` of byte `b` (R161, R162). -/
theorem getLsbD_packedByte (s : State) (r b : Nat) {p : Nat} (hp : p < 8) :
    (packedByte s r b).getLsbD (7 - p) = bitval s.polarity s.cols s.bmemAt r (8 * b + p) := by
  have hbits : packedByte s r b = BitVec.ofNat 8 (Nat.ofBits fun i : Fin 8 =>
      bitval s.polarity s.cols s.bmemAt r (8 * b + (7 - i))) := by
    simp only [packedByte, packedBit_eq_bitval, BitVec.toNat_ofBool, foldl_msbFirst fun p =>
      bitval s.polarity s.cols s.bmemAt r (8 * b + p)]
  have hlt : 7 - p < 8 := by omega
  have hplace : 7 - (7 - p) = p := by omega
  rw [hbits, BitVec.getLsbD_ofNat, decide_eq_true hlt, Bool.true_and, Nat.testBit_ofBits_lt _ _ hlt, hplace]

/-! ### One PACK step (R161) -/

/-- The work of a PACK step is one write, of the packed byte at the cursor. -/
theorem phaseWork_pack (hp : s.phase = .pack) :
    phaseWork s = some (s.writePmem (s.y * s.stride.toNat + s.x) (packedByte s s.y s.x)) := by
  simp only [phaseWork, hp]

/-- Settles O37: the work of a PACK step is one write, of a byte known bit by bit. -/
theorem packStepWritesOneByteMsbFirst : Obligations.PackStepWritesOneByteMsbFirst := by
  intro s hb hr hp
  obtain ⟨st, cx, cy, hstep⟩ := engineStep_of_phaseWork hb hr (phaseWork_pack hp)
  have hbyte := fun j => s.pmemAt_writePmem (s.y * s.stride.toNat + s.x) j (packedByte s s.y s.x)
  refine ⟨_, hstep, fun p hp => ?_, fun j hj => (hbyte j).trans (if_neg hj), rfl⟩
  rw [← getLsbD_packedByte s _ _ hp]
  exact congrArg (·.getLsbD (7 - p)) ((hbyte _).trans (if_pos rfl))

/-! ### The pack stage, from its first byte to its last (R163 to R165) -/

/-- The byte that a command packing from state `a` leaves at `j`, which lies in row `j / STRIDE` (R165). -/
def State.bitmapByte (a : State) (j : Nat) : Byte := packedByte a (j / a.stride.toNat) (j % a.stride.toNat)

/-- Byte `b` of row `r` of the bitmap. -/
theorem State.bitmapByte_place (a : State) (r : Nat) {b : Nat} (hb : b < a.stride.toNat) :
    a.bitmapByte (r * a.stride.toNat + b) = packedByte a r b := by
  have hrow : (r * a.stride.toNat + b) / a.stride.toNat = r := by
    rw [Nat.mul_comm, Nat.mul_add_div (Nat.zero_lt_of_lt hb), Nat.div_eq_of_lt hb, Nat.add_zero]
  rw [State.bitmapByte, hrow, Nat.mul_add_mod_of_lt hb]

/-- `p` bytes packed since state `a`: the others are as they were, and nothing else has changed but STATUS and the
cursor (R161). -/
structure Packed (a : State) (p : Nat) (v : State) : Prop where
  frame : ∃ st cx cy pm, v = { a with status := st, curx := cx, cury := cy, pmem := pm }
  bytes : ∀ j, j < p → v.pmemAt j = a.bitmapByte j
  others : ∀ j, p ≤ j → v.pmemAt j = a.pmemAt j

theorem Packed.setCursor (h : Packed a p v) (x y : Word) : Packed a p (v.setCursor x y) := by
  obtain ⟨⟨_, _, _, _, rfl⟩, hbytes, hothers⟩ := h
  exact ⟨⟨_, _, _, _, rfl⟩, hbytes, hothers⟩

theorem Packed.phaseEnd (h : Packed a p v) : Packed a p (phaseEnd v) := by
  obtain ⟨⟨_, _, _, _, hv⟩, hbytes, hothers⟩ := h
  refine ⟨?_, by simpa using hbytes, by simpa using hothers⟩
  rw [phaseEnd_frame, hv]
  exact ⟨_, _, _, _, rfl⟩

/-- The work of a PACK step packs one more byte: what it packs from has not changed since the start. -/
theorem Packed.phaseWork (hr : v.engineReady = true) (hp : v.phase = .pack) (hu : phaseWork v = some u)
    (h : Packed a v.scanPos v) : Packed a (v.scanPos + 1) u := by
  have hu := Option.some.inj ((phaseWork_pack hp).symm.trans hu)
  obtain ⟨-, hx, -, -⟩ := v.engineReady_iff.mp hr
  have hlimit : v.limit = v.stride.toNat := by simp only [State.limit, hp]
  have hpos : v.y * v.stride.toNat + v.x = v.scanPos := by rw [State.scanPos, hlimit]
  obtain ⟨⟨_, _, _, _, hv⟩, hbytes, hothers⟩ := h
  have hstride : v.stride = a.stride := by rw [hv]
  have hbyte : packedByte v v.y v.x = a.bitmapByte v.scanPos := by
    rw [← hpos, hstride, State.bitmapByte_place a _ (by rw [← hstride, ← hlimit]; exact hx), hv]
    rfl
  have hpmem : ∀ j, u.pmemAt j = if j = v.scanPos then a.bitmapByte v.scanPos else v.pmemAt j := fun j => by
    rw [← hu, hpos, State.pmemAt_writePmem, hbyte]
  refine ⟨?_, fun j hj => ?_, fun j hj => ?_⟩
  · rw [← hu, hv]; exact ⟨_, _, _, _, rfl⟩
  · rw [hpmem]
    split
    · subst j; rfl
    · exact hbytes j (by omega)
  · rw [hpmem, if_neg (by omega)]
    exact hothers j (by omega)

/-- A pack stage from its first step: as many steps as bytes, after which the whole bitmap is packed and the block is
idle with its cursor at (0, 0) (R163, R164, R181, R182). -/
theorem engineRun_packStage (hs : a.Sound) (hp : a.phase = .pack) (hpos : a.scanPos = 0) :
    ∃ t, engineRun a.scanLen a = .next t ∧ t.busy = false ∧ t.curx = 0#32 ∧ t.cury = 0#32 ∧
      Packed a a.scanLen t := by
  have hstart : Packed a a.scanPos a := ⟨⟨_, _, _, _, rfl⟩, fun j hj => by omega, fun _ _ => rfl⟩
  obtain ⟨v, hrun, hsound, hvp, hpacked⟩ := hs.engineRun_phase (n := a.scanLen) (by decide)
    Packed.setCursor (fun _ => Packed.phaseWork) hp (by omega) hstart
  have hidle : (phaseEnd v).phase = .idle := by rw [phase_phaseEnd, State.nextPhase, hvp]
  refine ⟨phaseEnd v, hrun, ?_, phaseEnd_curx v, phaseEnd_cury v, hpacked.phaseEnd⟩
  have hbusy := (State.busyOk_iff _).mp hsound.busyPhase
  simpa [hidle] using hbusy

/-! ### A PACK command (R163, R164) -/

/-- The two PACK commands have the pack stage only, and their polarity is bit 1 of the word (R93, R94). -/
theorem packCommand_stage {i : Instr} {pol : Polarity}
    (h : (i = .packDir ∧ pol = .dir) ∨ (i = .packInv ∧ pol = .inv)) :
    i ∈ stagedInstrs ∧ hasDither (encode i) = false ∧ hasPack (encode i) = true ∧ polarityOf (encode i) = pol := by
  rcases h with ⟨rfl, rfl⟩ | ⟨rfl, rfl⟩ <;> decide

@[simp] theorem State.pmemAt_begin (s : State) (w : Word) (j : Nat) : (s.begin w).pmemAt j = s.pmemAt j := by
  rw [State.begin_eq]; rfl

/-- The bitmap of an accepted command, bit by bit in terms of the state before it (R165). -/
theorem getLsbD_bitmapByte_begin (hl : s.frameLegal = true) {w : Word} (hw : hasPack w = true) (r : Nat) {b p : Nat}
    (hb : b < ceil8 s.cols) (hp : p < 8) :
    ((s.begin w).bitmapByte (r * ceil8 s.cols + b)).getLsbD (7 - p) =
      bitval (polarityOf w) s.cols s.bmemAt r (8 * b + p) := by
  have hstride := stride_begin hl hw
  have hbits : (s.begin w).bmemAt = s.bmemAt := funext (s.bmemAt_begin w)
  have hbyte := (s.begin w).bitmapByte_place r (hb.trans_eq hstride.symm)
  rw [hstride] at hbyte
  rw [hbyte, getLsbD_packedByte _ _ _ hp, State.polarity, State.begin_actcmd, State.cols_begin, hbits]

/-- Settles O43: the stage from acceptance on; acceptance latches STRIDE and PLEN and leaves the bits and the bytes. -/
theorem packCommandLeavesThePackedBitmap : Obligations.PackCommandLeavesThePackedBitmap := by
  intro s i pol hb hl hi
  obtain ⟨hstaged, hdither, hpack, rfl⟩ := packCommand_stage hi
  have hphase : (s.begin (encode i)).phase = .pack := by rw [State.phase_begin, hdither]; rfl
  have hstride := stride_begin hl hpack
  have hlen : (s.begin (encode i)).scanLen = s.rows * ceil8 s.cols := by
    simp only [State.scanLen, State.limit, hphase, State.rows_begin, hstride]
  obtain ⟨t, hrun, hidle, hcurx, hcury, hframe, hbytes, hothers⟩ := engineRun_packStage
    (State.Sound.begin hl (.inr hpack)) hphase (s.scanPos_begin _)
  rw [hlen] at hrun hbytes hothers
  obtain ⟨st, cx, cy, pm, rfl⟩ := hframe
  obtain rfl : cx = 0#32 := hcurx
  obtain rfl : cy = 0#32 := hcury
  refine ⟨_, _, exec_staged hstaged hb hl, hrun, hidle, hstride, plen_begin hl hpack,
    fun r b p hr hb hp => ?_, fun j hj => (hothers j hj).trans (s.pmemAt_begin _ j), by rw [State.begin_eq]⟩
  have hplace : r * ceil8 s.cols + b < s.rows * ceil8 s.cols := index_lt hb hr (Nat.mul_comm _ _).le
  exact (congrArg (·.getLsbD (7 - p)) (hbytes _ hplace)).trans (getLsbD_bitmapByte_begin hl hpack r hb hp)

end Sys2Proof.Machine

/-! ## Commands in the transaction that writes them (spec/43_control.md R175 to R179) -/

namespace Sys2Proof.Machine

variable {s : State}

/-- A command with a stage is started, or refused, under its own word (R175). -/
theorem exec_eq_startCommand {i : Instr} (hi : i ∈ stagedInstrs) (s : State) :
    exec i s = .next (startCommand (encode i) s) := by
  cases i
  case nop | srst => exact absurd hi (by decide)
  all_goals rfl

/-- While a command runs every command but `SRST` is refused (R175, R178, R179). -/
theorem exec_busy {i : Instr} (hi : i ≠ .srst) (hb : s.busy = true) :
    exec i s = .next (s.raise .busy (.command (encode i))) := by
  cases i
  case srst => exact absurd rfl hi
  all_goals exact congrArg Host.Outcome.next (if_pos hb)

/-- `NOP` while idle (R177). -/
theorem exec_nop_idle (hb : s.busy = false) :
    exec .nop s = .next ((s.setActcmd (encode .nop)).setDone true) :=
  congrArg Host.Outcome.next (if_neg (ne_true_of_eq_false hb))

/-- A command with a stage on an illegal frame is refused with ERR_DIM (R176, R221). -/
theorem exec_illegalFrame {i : Instr} (hi : i ∈ stagedInstrs) (hb : s.busy = false) (hl : s.frameLegal = false) :
    exec i s = .next (s.raise .dim (.command (encode i))) := by
  rw [exec_eq_startCommand hi, startCommand, if_neg (ne_true_of_eq_false hb), accept,
    if_neg (ne_true_of_eq_false hl)]

/-- The refusal of a command word, with STATUS as a mask (R220). -/
theorem State.raise_command_mask (s : State) (k : ErrKind) (w : Word) :
    s.raise k (.command w) = { s with errcmd := w, status := s.status ||| k.mask } := by
  rw [State.raise_command_eq, withBit_code]

/-- Acceptance, with STATUS as masks (R176). -/
theorem State.begin_eq_masks (s : State) (w : Word) :
    s.begin w = { s with
      actcmd := w
      status := (s.status &&& 0xFFFFFFF0#32) ||| (if hasDither w then 0x5#32 else 0xD#32)
      curx := 0#32
      cury := 0#32
      stride := if hasPack w then BitVec.ofNat 32 (ceil8 s.cols) else s.stride
      plen := if hasPack w then BitVec.ofNat 32 (s.rows * ceil8 s.cols) else s.plen } := by
  rw [← State.status_begin, State.begin_eq]

/-- The stride of a legal frame in the integers of R176. -/
theorem ceil8_cols_cast (hl : s.frameLegal = true) : ((ceil8 s.cols : Nat) : Int) = (s.width.toInt + 7) / 8 := by
  obtain ⟨hcols, -⟩ := s.frameLegal_nat hl
  rw [State.frameW, signed32] at hcols
  unfold ceil8
  omega

/-- An illegal frame, as R176 lists its three causes. -/
theorem State.frameLegal_eq_false_iff (s : State) : s.frameLegal = false ↔
    s.width.toInt ≤ 0 ∨ s.height.toInt ≤ 0 ∨ s.maxpix < s.width.toInt * s.height.toInt := by
  rw [← Bool.not_eq_true, s.frameLegal_iff, State.frameW, State.frameH, signed32, signed32]
  omega

/-- Settles O6: idle, busy, and the worked example as a case of the idle one. -/
theorem nopSetsDoneAndNothingElse : Obligations.NopSetsDoneAndNothingElse := by
  refine ⟨fun s => ⟨fun hb => ?_, fun hb => ?_⟩, exec_nop_idle rfl⟩
  · exact exec_nop_idle hb
  · rw [exec_busy (by decide) hb, State.raise_command_mask]
    rfl

/-- Settles O7: `SRST` clears the registers, BUSY among them, so the engine has no step left. -/
theorem srstClearsRegistersAndKeepsMemories : Obligations.SrstClearsRegistersAndKeepsMemories := by
  intro s
  have hirq : s.clearRegisters.irq = false := by simp [State.irq]
  exact ⟨s.clearRegisters, rfl, rfl, hirq, engineStep_idle s.busy_clearRegisters⟩

/-- Settles O9: a legal word is its command's and refused as such, an illegal one is refused before the decoder's
reason matters. -/
theorem busyBlockRefusesEveryWordButSrst : Obligations.BusyBlockRefusesEveryWordButSrst := by
  intro s w hb hw
  have hrefused : command w s = .next (s.raise .busy (.command w)) := by
    cases hd : decode w with
    | ok i =>
      have hi : i ≠ .srst := by
        rintro rfl
        exact hw (eq_encode_of_decode hd)
      rw [command_of_decode hd, exec_busy hi hb, ← eq_encode_of_decode hd]
    | error e => rw [command, hd, illegalCommand, if_pos hb]
  rw [hrefused, State.raise_command_mask]
  rfl

/-- Settles O8: on a legal frame acceptance in full, on an illegal one the refusal. -/
theorem acceptanceStartsACommandOrRefusesTheFrame : Obligations.AcceptanceStartsACommandOrRefusesTheFrame := by
  intro s i hi hb
  refine ⟨fun hw hh hp => ?_, fun hillegal => ?_⟩
  · have hl : s.frameLegal = true := s.frameLegal_iff.mpr ⟨hw, hh, hp⟩
    obtain ⟨-, hrows, -⟩ := s.frameLegal_nat hl
    have hplen : ((s.rows * ceil8 s.cols : Nat) : Int) = s.height.toInt * ((s.width.toInt + 7) / 8) := by
      rw [Nat.cast_mul, hrows, ceil8_cols_cast hl]
      rfl
    rw [exec_staged hi hb hl, State.begin_eq_masks, ← hplen, ← ceil8_cols_cast hl, BitVec.ofInt_natCast,
      BitVec.ofInt_natCast]
  · rw [exec_illegalFrame hi hb (s.frameLegal_eq_false_iff.mpr hillegal), State.raise_command_mask]
    rfl

end Sys2Proof.Machine

/-! ## The cursor and the phases, step by step (spec/43_control.md R180 to R182, spec/10_state.md R24) -/

namespace Sys2Proof.Machine

variable {s t u : State}

/-! ### The next place of the scan (R24) -/

/-- Within a row the next place is the next column. -/
theorem State.advance_within {lim : Nat} (h : s.x + 1 < lim) (hlim : lim ≤ 2 ^ 32) :
    (s.advance lim).x = s.x + 1 ∧ (s.advance lim).y = s.y := by
  have hx : (s.curx + 1#32).toNat = s.curx.toNat + 1 :=
    BitVec.toNat_add_of_lt (h.trans_le hlim)
  rw [State.advance, if_pos h]
  exact ⟨hx, rfl⟩

/-- At the end of a row that is not the last the next place is the start of the next row. -/
theorem State.advance_rowEnd {lim : Nat} (h : s.x + 1 = lim) (hy : s.y + 1 < s.rows) :
    (s.advance lim).x = 0 ∧ (s.advance lim).y = s.y + 1 := by
  have hrows : s.rows < 2 ^ 32 := by
    have := BitVec.toInt_lt (x := s.height)
    unfold State.rows State.frameH signed32
    omega
  have hy : (s.cury + 1#32).toNat = s.cury.toNat + 1 := BitVec.toNat_add_of_lt (hy.trans hrows)
  rw [State.advance, if_neg h.not_lt]
  exact ⟨rfl, hy⟩

/-- Within a row, and at the end of a row that is not the last, the phase has elements left. -/
theorem scanPos_succ_lt (hr : s.engineReady = true) (h : s.x + 1 < s.limit ∨ s.x + 1 = s.limit ∧ s.y + 1 < s.rows) :
    s.scanPos + 1 < s.scanLen := by
  obtain ⟨-, hx, hy, -⟩ := s.engineReady_iff.mp hr
  rcases h with hwithin | ⟨hend, hnext⟩
  · exact index_lt hwithin hy (Nat.mul_comm _ _).le
  · calc s.scanPos + 1 = (s.y + 1) * s.limit + 0 := by rw [State.scanPos, Nat.add_assoc, hend]; ring
      _ < s.scanLen := index_lt (by omega) hnext (Nat.mul_comm _ _).le

/-- The end of the last row is the phase's last element. -/
theorem scanPos_succ_eq (hx : s.x + 1 = s.limit) (hy : s.y + 1 = s.rows) : s.scanPos + 1 = s.scanLen := by
  rw [State.scanPos, State.scanLen, Nat.add_assoc, hx, ← hy]
  ring

/-- A busy engine's step before the phase's last element moves the cursor and leaves STATUS (R24, R180). -/
theorem engineStep_of_scanPos_lt (hb : s.busy = true) (h : engineStep s = .next t) (hlt : s.scanPos + 1 < s.scanLen) :
    t.x = (s.advance s.limit).x ∧ t.y = (s.advance s.limit).y ∧ t.status = s.status := by
  obtain ⟨-, u, hu, ⟨-, rfl, -⟩ | ⟨hlast, -⟩⟩ := engineStep_busy_cases hb h
  · obtain ⟨_, _, _, rfl⟩ := phaseWork_frame hu
    unfold State.advance State.x
    split <;> exact ⟨rfl, rfl, rfl⟩
  · omega

/-- Its step at the phase's last element ends the phase, in a state with the same command and STATUS (R181). -/
theorem engineStep_of_scanPos_eq (hb : s.busy = true) (h : engineStep s = .next t) (hlast : s.scanPos + 1 = s.scanLen) :
    ∃ u, t = phaseEnd u ∧ u.phase ≠ .idle ∧ u.phase = s.phase ∧ u.actcmd = s.actcmd ∧ u.status = s.status ∧
      u.ien = s.ien := by
  obtain ⟨-, u, hu, ⟨hlt, -⟩ | ⟨-, rfl⟩⟩ := engineStep_busy_cases hb h
  · omega
  · have hp : s.phase ≠ .idle := fun hp => by
      rw [phaseWork, hp] at hu
      cases hu
    obtain ⟨_, _, _, rfl⟩ := phaseWork_frame hu
    exact ⟨_, rfl, hp, rfl, rfl, rfl, rfl⟩

/-! ### STATUS at the end of a phase (R181, R182) -/

/-- The bits of STATUS that no end of a phase writes, with DONE, which only completion does. -/
theorem State.setPhase_status_and (s : State) (p : Phase) :
    (s.setPhase p).status &&& 0xFFFFFFF2#32 = s.status &&& 0xFFFFFFF2#32 := by
  rw [State.setPhase_status, withBit_and_of_mask _ _ (by decide) (by decide),
    withBit_and_of_mask _ _ (by decide) (by decide)]

/-- Completion adds DONE to them. -/
theorem complete_status_and (s : State) :
    (complete s).status &&& 0xFFFFFFF2#32 = (s.status &&& 0xFFFFFFF2#32) ||| 0x2#32 := by
  have hdone : (complete s).status = ((s.setPhase .idle).setBusy false).status ||| 0x2#32 := rfl
  have hmask : 0x2#32 &&& 0xFFFFFFF2#32 = 0x2#32 := by decide
  rw [hdone, BitVec.and_or_distrib_right, hmask, State.setBusy_status,
    withBit_and_of_mask _ _ (by decide) (by decide), State.setPhase_status_and]

/-- The end of a phase keeps all of STATUS but BUSY, DONE and PHASE, and sets DONE if the command is over. -/
theorem phaseEnd_status_and (hb : s.busy = true) :
    (phaseEnd s).status &&& 0xFFFFFFF2#32 =
      (s.status &&& 0xFFFFFFF2#32) ||| (if (phaseEnd s).busy then 0#32 else 0x2#32) := by
  have hruns : ∀ p, ((s.setCursor 0#32 0#32).setPhase p).status &&& 0xFFFFFFF2#32 = (s.status &&& 0xFFFFFFF2#32) |||
      (if ((s.setCursor 0#32 0#32).setPhase p).busy then 0#32 else 0x2#32) := fun p => by
    rw [State.setPhase_status_and, State.busy_setPhase, State.busy_setCursor, hb]
    exact BitVec.or_zero.symm
  have hends : (complete (s.setCursor 0#32 0#32)).status &&& 0xFFFFFFF2#32 = (s.status &&& 0xFFFFFFF2#32) |||
      (if (complete (s.setCursor 0#32 0#32)).busy then 0#32 else 0x2#32) := by
    rw [busy_complete, complete_status_and]
    rfl
  rcases phaseEnd_cases s with ⟨-, h⟩ | ⟨-, -, h⟩ | ⟨-, -, h⟩ | ⟨-, h⟩ | ⟨-, h⟩ <;> rw [h]
  · exact hruns .diffuse
  · exact hruns .pack
  · exact hends
  · exact hends
  · rw [State.busy_setCursor, hb]
    exact BitVec.or_zero.symm

/-- Settles O33: the three places of the cursor, then the end of a phase by its phase. -/
theorem engineStepAdvancesCursorAndPhases : Obligations.EngineStepAdvancesCursorAndPhases := by
  intro s t hb h
  have hr := ((engineStep_busy_iff hb).mp h).1
  refine ⟨fun hx => ?_, fun hx hy => ?_, fun hx hy => ?_⟩
  · obtain ⟨htx, hty, hst⟩ := engineStep_of_scanPos_lt hb h (scanPos_succ_lt hr (.inl hx))
    obtain ⟨hcol, hrow⟩ := State.advance_within hx s.limit_le
    exact ⟨htx.trans hcol, hty.trans hrow, hst⟩
  · obtain ⟨htx, hty, hst⟩ := engineStep_of_scanPos_lt hb h (scanPos_succ_lt hr (.inr ⟨hx, hy⟩))
    obtain ⟨hcol, hrow⟩ := State.advance_rowEnd hx hy
    exact ⟨htx.trans hcol, hty.trans hrow, hst⟩
  · obtain ⟨u, rfl, hp, hphase, hact, hst, hien⟩ := engineStep_of_scanPos_eq hb h (scanPos_succ_eq hx hy)
    have hub : u.busy = true := (congrArg (·.getLsbD 0) hst).trans hb
    have hnext := phase_phaseEnd u
    have hbusy := busy_phaseEnd hub hp
    rw [State.nextPhase, hphase, hact] at hnext hbusy
    refine ⟨by simp [State.x], by simp [State.y], by simp [hact], hst ▸ phaseEnd_status_and hub,
      fun hq => ?_, fun hq hk => ?_, fun hq hk => ?_, fun hq => ?_, fun hidle => ?_⟩
    · simpa [hq] using And.intro hnext hbusy
    · simpa [hq, hk] using And.intro hnext hbusy
    · simpa [hq, hk] using And.intro hnext hbusy
    · simpa [hq] using And.intro hnext hbusy
    · have hdone := engineStep_done hb h hidle
      refine ⟨hdone, fun hie => (State.irq_iff _).mpr ⟨1, by decide, hdone, ?_⟩⟩
      rwa [phaseEnd_frame, hien]

end Sys2Proof.Machine

/-! ## An accepted command completes after exactly its steps (spec/43_control.md R180, R182, R187) -/

namespace Sys2Proof.Machine

variable {s t u : State} {k : Nat}

/-- The engine of a sound state answers, however many steps it is given. -/
theorem State.Sound.engineRun_answers (hs : s.Sound) (k : Nat) : ∃ t, Machine.engineRun k s = .next t := by
  induction k generalizing s with
  | zero => exact ⟨s, rfl⟩
  | succ k ih =>
    obtain ⟨u, hu, hsound⟩ := hs.engineStep
    obtain ⟨t, ht⟩ := ih hsound
    exact ⟨t, by simp only [Machine.engineRun, hu, ht]⟩

/-- A block is busy exactly while its command has steps left. -/
theorem State.Sound.busy_iff (hs : s.Sound) : s.busy = true ↔ 0 < s.stepsLeft := by
  refine ⟨stepsLeft_pos hs.running, fun hleft => ?_⟩
  by_contra hb
  rw [State.stepsLeft, if_neg hb] at hleft
  exact lt_irrefl 0 hleft

/-- After `k` steps it is busy exactly if the command had more than `k` left (R187). -/
theorem State.Sound.busy_engineRun_iff (hs : s.Sound) (h : Machine.engineRun k s = .next t) :
    t.busy = true ↔ k < s.stepsLeft := by
  obtain ⟨-, -, hleft⟩ := engineRun_control hs.busyPhase hs.running h
  rw [(hs.engineRun h).busy_iff, hleft]
  omega

/-- An idle sound block is in phase IDLE (R27). -/
theorem State.Sound.phase_of_idle (hs : s.Sound) (hb : s.busy = false) : s.phase = .idle := by
  have hbusy := s.busyOk_iff.mp hs.busyPhase
  simpa [hb] using hbusy

/-- The step that ends a command leaves the cursor at the origin (R181). -/
theorem engineStep_origin (hb : s.busy = true) (h : engineStep s = .next t) (hidle : t.busy = false) :
    t.curx = 0#32 ∧ t.cury = 0#32 := by
  obtain ⟨-, u, hu, ⟨-, rfl, -⟩ | ⟨-, rfl⟩⟩ := engineStep_busy_cases hb h
  · obtain ⟨-, -, -, -, -, hub⟩ := phaseWork_control hu
    rw [State.advance_frame, State.busy_setCursor, hub, hb] at hidle
    cases hidle
  · exact ⟨phaseEnd_curx u, phaseEnd_cury u⟩

/-- A run of an idle engine stays where it is. -/
theorem engineRun_idle (hb : s.busy = false) (k : Nat) : engineRun k s = .next s := by
  induction k with
  | zero => rfl
  | succ k ih => simp only [engineRun, engineStep_idle hb, ih]

/-- A run that ends its command leaves DONE set and the cursor at the origin (R181, R182). -/
theorem engineRun_completed (hb : s.busy = true) (h : engineRun k s = .next t) (hidle : t.busy = false) :
    t.done = true ∧ t.curx = 0#32 ∧ t.cury = 0#32 := by
  induction k generalizing s with
  | zero =>
    cases h
    exact absurd (hb.symm.trans hidle) (by decide)
  | succ k ih =>
    obtain ⟨u, hu, hrest⟩ := engineRun_succ h
    cases hub : u.busy with
    | true => exact ih hub hrest
    | false =>
      cases (engineRun_idle hub k).symm.trans hrest
      exact ⟨engineStep_done hb hu hidle, engineStep_origin hb hu hidle⟩

/-- An accepted command completes in the steps R187 counts. -/
theorem engineRun_begin_completes (hl : s.frameLegal = true) {w : Word}
    (hw : hasDither w = true ∨ hasPack w = true) :
    ∃ t, engineRun (commandSteps w s) (s.begin w) = .next t ∧ t.Sound ∧ t.busy = false := by
  have hsound := State.Sound.begin hl hw
  obtain ⟨t, ht⟩ := hsound.engineRun_answers (commandSteps w s)
  have hidle := (hsound.busy_engineRun_iff ht).not
  rw [stepsLeft_begin hl hw, Bool.not_eq_true] at hidle
  exact ⟨t, ht, hsound.engineRun ht, hidle.mpr (lt_irrefl _)⟩

/-- Settles O40: acceptance makes a sound state with R187's steps left, each engine step uses up one, and the block is
busy exactly while some are left. -/
theorem commandCompletesAfterExactlyItsSteps : Obligations.CommandCompletesAfterExactlyItsSteps := by
  rintro s i _ hb hl hi rfl
  change 1 ≤ commandSteps (encode i) s ∧ _
  have hstage := hasStage_of_staged hi
  have hsound := State.Sound.begin hl hstage
  have hleft := stepsLeft_begin hl hstage
  have hpos := hsound.busy_iff.mp (s.busy_begin (encode i))
  obtain ⟨t, ht, hend, hidle⟩ := engineRun_begin_completes hl hstage
  obtain ⟨hdone, hcurx, hcury⟩ := engineRun_completed (s.busy_begin (encode i)) ht hidle
  obtain ⟨-, -, hactcmd, -⟩ := engineRun_latched ht
  refine ⟨hleft ▸ hpos, _, t, exec_staged hi hb hl, ht, hidle, hdone, hend.phase_of_idle hidle, hcurx, hcury,
    hactcmd.trans (s.begin_actcmd _), fun k hk => ?_⟩
  obtain ⟨v, hv⟩ := hsound.engineRun_answers k
  exact ⟨v, hv, (hsound.busy_engineRun_iff hv).mpr (hleft ▸ hk)⟩

end Sys2Proof.Machine

/-! ## A RUN command is its DITHER and then its PACK command (spec/43_control.md R183 to R186) -/

namespace Sys2Proof.Machine

variable {s t u v : State} {w dw pw st pl : Word} {k : Nat}

/-! ### The same work under another command's word -/

/-- The state with another command's word and pack registers. -/
def State.relabel (w st pl : Word) (s : State) : State := { s with actcmd := w, stride := st, plen := pl }

/-- The word and the stride give the current phase the work it has: a dither phase its method, PACK its polarity and
its stride. -/
structure State.SameWork (w st : Word) (s : State) : Prop where
  method : s.phase ≠ .pack → methodOf w = s.method
  polarity : s.phase = .pack → polarityOf w = s.polarity
  stride : s.phase = .pack → st = s.stride

/-- Deposits do not read the command's registers (R134). -/
theorem depositAll_relabel (x y : Int) (l : List Share) (s : State) :
    depositAll x y l (s.relabel w st pl) = (depositAll x y l s).map (State.relabel w st pl) := by
  have deposit_relabel : ∀ (x y d : Int) (s : State),
      deposit x y d (s.relabel w st pl) = (deposit x y d s).map (State.relabel w st pl) := by
    intro x y d s
    have hin : (s.relabel w st pl).inFrame x y = s.inFrame x y := rfl
    unfold deposit
    rw [hin]
    split
    · rw [Option.map_map]; rfl
    · rfl
  induction l generalizing s with
  | nil => rfl
  | cons a rest ih =>
    unfold depositAll
    rw [deposit_relabel]
    cases deposit (x + a.dx) (y + a.dy) a.d s with
    | none => rfl
    | some u => exact ih u

/-- The work of a step reads no more of the command than its method or its polarity and stride. -/
theorem phaseWork_relabel (hw : s.SameWork w st) :
    phaseWork (s.relabel w st pl) = (phaseWork s).map (State.relabel w st pl) := by
  have hphase : (s.relabel w st pl).phase = s.phase := rfl
  have hmethod : s.phase ≠ .pack → (s.relabel w st pl).method = s.method := hw.method
  have hpol : s.phase = .pack → (s.relabel w st pl).polarity = s.polarity := hw.polarity
  have hstride := hw.stride
  unfold phaseWork
  rw [hphase]
  cases hp : s.phase with
  | idle => rfl
  | seed =>
    simp only [hmethod (by simp [hp])]
    rfl
  | diffuse =>
    simp only [hmethod (by simp [hp])]
    exact depositAll_relabel _ _ _ (s.writeBmem s.cursorIndex (decision (s.wbufAt s.cursorIndex)))
  | pack =>
    obtain rfl := hstride hp
    have hbyte : packedByte (s.relabel w s.stride pl) s.y s.x = packedByte s s.y s.x := by
      simp only [packedByte, packedBit, hpol hp]
      rfl
    exact congrArg (fun b => some ((s.relabel w s.stride pl).writePmem (s.y * s.stride.toNat + s.x) b)) hbyte

/-- The engine's guard and the scan read the stride in PACK only. -/
theorem relabel_scan (hw : s.SameWork w st) :
    (s.relabel w st pl).limit = s.limit ∧ (s.relabel w st pl).engineReady = s.engineReady := by
  have hphase : (s.relabel w st pl).phase = s.phase := rfl
  have hstride := hw.stride
  unfold State.engineReady State.limit
  rw [hphase]
  cases hp : s.phase with
  | pack => obtain rfl := hstride hp; exact ⟨rfl, rfl⟩
  | idle | seed | diffuse => exact ⟨rfl, rfl⟩

/-- The cursor's move reads nothing of the command. -/
theorem State.advance_relabel (s : State) (lim : Nat) :
    (s.relabel w st pl).advance lim = (s.advance lim).relabel w st pl := by
  have hx : (s.relabel w st pl).x = s.x := rfl
  unfold State.advance
  rw [hx]
  split <;> rfl

/-- A step under another word that means the same work differs in the word and the pack registers, up to the end of
the phase. -/
theorem engineStep_relabel (hw : s.SameWork w st) (hb : s.busy = true) (h : engineStep s = .next t) :
    ∃ v, t = endStep v ∧ engineStep (s.relabel w st pl) = .next (endStep (v.relabel w st pl)) ∧
      ∃ cx cy wb bm pm, v = { s with curx := cx, cury := cy, wbuf := wb, bmem := bm, pmem := pm } := by
  obtain ⟨hr, u, hu, rfl⟩ := (engineStep_busy_iff hb).mp h
  obtain ⟨hlimit, hready⟩ := relabel_scan (pl := pl) hw
  have hwork : phaseWork (s.relabel w st pl) = some (u.relabel w st pl) := by
    rw [phaseWork_relabel hw, hu, Option.map_some]
  refine ⟨_, rfl, (engineStep_busy_iff (s := s.relabel w st pl) hb).mpr ⟨hready.trans hr, _, hwork, ?_⟩, ?_⟩
  · rw [hlimit, State.advance_relabel]
  · obtain ⟨_, _, _, rfl⟩ := phaseWork_frame hu
    rw [State.advance_frame]
    exact ⟨_, _, _, _, _, rfl⟩

/-! ### The PACK command under the RUN's word -/

/-- The end of a step outside DIFFUSE reads nothing of the command's word (R181). -/
theorem endStep_setActcmd (hp : v.phase ≠ .diffuse) : endStep (v.setActcmd w) = (endStep v).setActcmd w := by
  have hend : phaseEnd (v.setActcmd w) = (phaseEnd v).setActcmd w := by
    have hphase : (v.setActcmd w).phase = v.phase := rfl
    unfold phaseEnd
    rw [hphase]
    cases hq : v.phase with
    | diffuse => exact absurd hq hp
    | idle | seed | pack => rfl
  have hfin : (v.setActcmd w).phaseFinished = v.phaseFinished := rfl
  unfold endStep
  rw [hfin, hend]
  split <;> rfl

/-- A running command without a dither stage is in PACK (R94). -/
theorem State.Sound.phase_pack (hs : s.Sound) (hb : s.busy = true) (hd : hasDither s.actcmd = false) :
    s.phase = .pack := by
  by_contra hp
  exact absurd ((s.runningOk_iff.mp hs.running hb).dithers hp) (ne_true_of_eq_false hd)

/-- A step of a command without a dither stage is the same under every word of its polarity. -/
theorem engineStep_setActcmd (hs : s.Sound) (hb : s.busy = true) (hd : hasDither s.actcmd = false)
    (hpol : polarityOf w = s.polarity) (h : engineStep s = .next t) :
    engineStep (s.setActcmd w) = .next (t.setActcmd w) := by
  have hp := hs.phase_pack hb hd
  have hsame : s.SameWork w s.stride := ⟨fun hq => absurd hp hq, fun _ => hpol, fun _ => rfl⟩
  obtain ⟨_, rfl, hstep, _, _, _, _, _, rfl⟩ := engineStep_relabel (pl := s.plen) hsame hb h
  exact hstep.trans (congrArg Host.Outcome.next (endStep_setActcmd fun hq => Phase.noConfusion (hp.symm.trans hq)))

/-- So is a whole run. -/
theorem engineRun_setActcmd (hs : s.Sound) (hd : hasDither s.actcmd = false) (hpol : polarityOf w = s.polarity)
    (h : engineRun k s = .next t) : engineRun k (s.setActcmd w) = .next (t.setActcmd w) := by
  induction k generalizing s with
  | zero => cases h; rfl
  | succ k ih =>
    cases hb : s.busy with
    | false =>
      cases (engineRun_idle hb (k + 1)).symm.trans h
      exact engineRun_idle (s := t.setActcmd w) hb (k + 1)
    | true =>
      obtain ⟨u, hu, hrest⟩ := engineRun_succ h
      have hsound : u.Sound := hs.engineRun (k := 1) (by simp only [engineRun, hu])
      have hstep := engineStep_setActcmd hs hb hd hpol hu
      obtain ⟨_, _, _, _, _, _, rfl⟩ := engineStep_frame hu
      simp only [engineRun, hstep]
      exact ih hsound hd hpol hrest

/-! ### The DITHER command under the RUN's word -/

/-- The word of a RUN command is that of a DITHER command of its method and then of a PACK command of its polarity
(R92, R94). -/
structure IsRunOf (w dw pw : Word) : Prop where
  dithers : hasDither w = true
  packs : hasPack w = true
  ditherOnly : hasDither dw = true ∧ hasPack dw = false
  packOnly : hasDither pw = false ∧ hasPack pw = true
  method : methodOf w = methodOf dw
  polarity : polarityOf w = polarityOf pw

/-- What a RUN command with word `w` has reached when its DITHER command has reached `s`: while that runs, `s` under
its own word and with the pack registers latched; after it, the start of its PACK command, under its own word. -/
def State.duringRun (w pw : Word) (s : State) : State :=
  if s.busy then s.latchPack.setActcmd w else (s.begin pw).setActcmd w

theorem State.duringRun_busy (hb : s.busy = true) : s.duringRun w pw = s.latchPack.setActcmd w := if_pos hb

theorem State.duringRun_idle (hb : s.busy = false) : s.duringRun w pw = (s.begin pw).setActcmd w :=
  if_neg (ne_true_of_eq_false hb)

/-- Acceptance of the RUN command beside that of its DITHER command (R176). -/
theorem duringRun_begin (hrun : IsRunOf w dw pw) (s : State) : (s.begin dw).duringRun w pw = s.begin w := by
  obtain ⟨hd, -⟩ := hrun.ditherOnly
  rw [State.duringRun_busy (s.busy_begin dw), State.begin_eq_masks, State.begin_eq_masks, hd, hrun.dithers,
    hrun.packs]
  rfl

/-- STATUS between the stages: to enter PACK with BUSY 1 and DONE 0 is to complete and be accepted again. -/
theorem setPhase_pack_status (hb : s.busy = true) (hdone : s.done = false) :
    (s.setPhase .pack).status = ((((complete s).setDone false).setBusy true).setPhase .pack).status := by
  have hbusy : s.status.getLsbD 0 = true := hb
  have hdone : s.status.getLsbD 1 = false := hdone
  apply word_ext
  intro i _
  by_cases h0 : i = 0
  · subst h0; simpa using hbusy
  by_cases h1 : i = 1
  · subst h1; simpa using hdone
  by_cases h23 : i = 2 ∨ i = 3
  · rcases h23 with rfl | rfl <;> simp
  · obtain ⟨h2, h3⟩ := not_or.mp h23
    simp [complete_eq, h0, h1, h2, h3]

/-- SEED is followed by DIFFUSE (R181). -/
theorem phaseEnd_seed (hp : s.phase = .seed) : phaseEnd s = (s.setCursor 0#32 0#32).setPhase .diffuse := by
  simp only [phaseEnd, hp]

/-- DIFFUSE is followed by PACK in a command with a pack stage (R181). -/
theorem phaseEnd_diffuse_packs (hp : s.phase = .diffuse) (hk : hasPack s.actcmd = true) :
    phaseEnd s = (s.setCursor 0#32 0#32).setPhase .pack := by
  simp only [phaseEnd, hp, hk, if_true]

/-- DIFFUSE completes a command without one (R181, R182). -/
theorem phaseEnd_diffuse_completes (hp : s.phase = .diffuse) (hk : hasPack s.actcmd = false) :
    phaseEnd s = complete (s.setCursor 0#32 0#32) := by
  simp only [phaseEnd, hp, hk, Bool.false_eq_true, if_false]

/-- The end of a phase of the DITHER command, and of the RUN command at the same place (R181, R183). -/
theorem phaseEnd_duringRun (hb : s.busy = true) (hdone : s.done = false) (hk : hasPack s.actcmd = false)
    (hp : s.phase = .seed ∨ s.phase = .diffuse) (hrun : IsRunOf w dw pw) :
    phaseEnd (s.latchPack.setActcmd w) = (phaseEnd s).duringRun w pw := by
  have hphase : (s.latchPack.setActcmd w).phase = s.phase := rfl
  rcases hp with hp | hp
  · have hbusy : ((s.setCursor 0#32 0#32).setPhase .diffuse).busy = true := by simpa using hb
    rw [phaseEnd_seed (hphase.trans hp), phaseEnd_seed hp, State.duringRun_busy hbusy]
    rfl
  · obtain ⟨hd, hpacks⟩ := hrun.packOnly
    have hstatus := setPhase_pack_status (s := s.setCursor 0#32 0#32) hb hdone
    rw [phaseEnd_diffuse_packs (hphase.trans hp) hrun.packs, phaseEnd_diffuse_completes hp hk,
      State.duringRun_idle (busy_complete _), State.begin_eq, hd, hpacks, if_neg Bool.false_ne_true, ← hstatus]
    rfl

/-- So is the end of a step, which ends a phase or not (R180). -/
theorem endStep_duringRun (hb : s.busy = true) (hdone : s.done = false) (hk : hasPack s.actcmd = false)
    (hp : s.phase = .seed ∨ s.phase = .diffuse) (hrun : IsRunOf w dw pw) :
    endStep (s.latchPack.setActcmd w) = (endStep s).duringRun w pw := by
  have hfin : (s.latchPack.setActcmd w).phaseFinished = s.phaseFinished := rfl
  unfold endStep
  rw [hfin]
  split
  · exact phaseEnd_duringRun hb hdone hk hp hrun
  · exact (State.duringRun_busy hb).symm

/-- A running command without a pack stage is in SEED or DIFFUSE (R94). -/
theorem State.Sound.phase_dither (hs : s.Sound) (hb : s.busy = true) (hk : hasPack s.actcmd = false) :
    s.phase = .seed ∨ s.phase = .diffuse := by
  have hidle := (s.busyOk_iff.mp hs.busyPhase).mp hb
  have hpacks := (s.runningOk_iff.mp hs.running hb).packs
  rw [hk] at hpacks
  cases hp : s.phase with
  | seed => exact .inl rfl
  | diffuse => exact .inr rfl
  | idle => exact absurd hp hidle
  | pack => exact absurd (hpacks hp) Bool.false_ne_true

/-- One step of the DITHER command is one of the RUN command (R183). -/
theorem engineStep_duringRun (hs : s.Sound) (hb : s.busy = true) (hdone : s.done = false) (hact : s.actcmd = dw)
    (hrun : IsRunOf w dw pw) (h : engineStep s = .next t) :
    engineStep (s.duringRun w pw) = .next (t.duringRun w pw) := by
  have hk : hasPack s.actcmd = false := hact ▸ hrun.ditherOnly.2
  have hdither := hs.phase_dither hb hk
  have hp : s.phase ≠ .pack := by rcases hdither with hp | hp <;> simp [hp]
  have hsame : s.SameWork w s.latchPack.stride :=
    ⟨fun _ => hrun.method.trans (congrArg methodOf hact.symm), fun hq => absurd hq hp, fun hq => absurd hq hp⟩
  obtain ⟨_, rfl, hstep, cx, cy, wb, bm, pm, rfl⟩ := engineStep_relabel (pl := s.latchPack.plen) hsame hb h
  have hend := endStep_duringRun (s := { s with curx := cx, cury := cy, wbuf := wb, bmem := bm, pmem := pm })
    hb hdone hk hdither hrun
  rw [State.duringRun_busy hb, ← hend]
  exact hstep

/-- DONE is as it was while the command runs (R182). -/
theorem done_engineStep (hb : s.busy = true) (h : engineStep s = .next t) (ht : t.busy = true) :
    t.done = s.done := by
  have hmask : ∀ w : Word, (w &&& 0xFFFFFFF2#32).getLsbD 1 = w.getLsbD 1 := fun w =>
    (BitVec.getLsbD_and ..).trans (Bool.and_true _)
  obtain ⟨hr, -⟩ := (engineStep_busy_iff hb).mp h
  rcases (Nat.succ_le_of_lt (scanPos_lt_scanLen hr)).lt_or_eq with hlt | hlast
  · obtain ⟨-, -, hst⟩ := engineStep_of_scanPos_lt hb h hlt
    exact congrArg (·.getLsbD 1) hst
  · obtain ⟨u, rfl, -, -, -, hst, -⟩ := engineStep_of_scanPos_eq hb h hlast
    have hstatus := phaseEnd_status_and (s := u) ((congrArg (·.getLsbD 0) hst).trans hb)
    rw [ht, if_pos rfl, BitVec.or_zero, hst] at hstatus
    exact (hmask _).symm.trans ((congrArg (·.getLsbD 1) hstatus).trans (hmask _))

/-- The whole DITHER command is the dither stage of the RUN command. -/
theorem engineRun_duringRun (hs : s.Sound) (hdone : s.busy = true → s.done = false) (hact : s.actcmd = dw)
    (hrun : IsRunOf w dw pw) (hk : k ≤ s.stepsLeft) (h : engineRun k s = .next t) :
    engineRun k (s.duringRun w pw) = .next (t.duringRun w pw) := by
  induction k generalizing s with
  | zero => cases h; rfl
  | succ k ih =>
    have hb : s.busy = true := hs.busy_iff.mpr (by omega)
    obtain ⟨u, hu, hrest⟩ := engineRun_succ h
    have hsound : u.Sound := hs.engineRun (k := 1) (by simp only [engineRun, hu])
    have hleft := stepsLeft_engineStep hs.busyPhase hs.running hu
    have hstep := engineStep_duringRun hs hb (hdone hb) hact hrun hu
    have hudone : u.busy = true → u.done = false := fun hub => (done_engineStep hb hu hub).trans (hdone hb)
    have huact : u.actcmd = dw := by
      obtain ⟨_, _, _, _, _, _, rfl⟩ := engineStep_frame hu
      exact hact
    simp only [engineRun, hstep]
    exact ih hsound hudone huact (by omega) hrest

/-! ### The two runs together (R183 to R186) -/

/-- The rows of R183 to R186, and that their commands have stages. -/
theorem isRunOf_rows : ∀ row ∈ [(Instr.runOrdDir, Instr.ditherOrd, Instr.packDir), (.runExtDir, .ditherExt, .packDir),
    (.runOrdInv, .ditherOrd, .packInv), (.runExtInv, .ditherExt, .packInv)],
    IsRunOf (encode row.1) (encode row.2.1) (encode row.2.2) ∧
      row.1 ∈ stagedInstrs ∧ row.2.1 ∈ stagedInstrs ∧ row.2.2 ∈ stagedInstrs := by
  intro row hrow
  refine ⟨⟨?_, ?_, ?_, ?_, ?_, ?_⟩, ?_⟩ <;> revert row <;> decide

/-- Settles O44: while the DITHER command runs, the RUN command's state is its own under another word; where it
completes, the RUN command has entered PACK, which is where the PACK command starts; from there the word alone
differs. -/
theorem runEqualsDitherThenPack : Obligations.RunEqualsDitherThenPack := by
  intro s hb hl row hrow
  obtain ⟨hrun, hi, hdi, hpi⟩ := isRunOf_rows row hrow
  obtain ⟨hdd, hdk⟩ := hrun.ditherOnly
  obtain ⟨hpd, hpk⟩ := hrun.packOnly
  obtain ⟨t1, ht1, -, hidle1⟩ := engineRun_begin_completes hl (.inl hdd)
  have hdither := engineRun_duringRun (State.Sound.begin hl (.inl hdd)) (fun _ => s.done_begin _) (s.begin_actcmd _)
    hrun (stepsLeft_begin hl (.inl hdd)).ge ht1
  rw [duringRun_begin hrun, State.duringRun_idle hidle1] at hdither
  obtain ⟨hcols, hrows, -⟩ := engineRun_latched ht1
  have hl1 : t1.frameLegal = true := by
    obtain ⟨_, _, _, _, _, _, rfl⟩ := engineRun_frame ht1
    exact (s.frameLegal_begin _).trans hl
  obtain ⟨t2, ht2, -, hidle2⟩ := engineRun_begin_completes hl1 (.inr hpk)
  have hpack := engineRun_setActcmd (w := encode row.1) (State.Sound.begin hl1 (.inr hpk)) (by simpa using hpd)
    (by rw [hrun.polarity, State.polarity, State.begin_actcmd]) ht2
  have hdsteps : commandSteps (encode row.2.1) s = 2 * (s.cols * s.rows) := by simp [commandSteps, hdd, hdk]
  have hpsteps : commandSteps (encode row.2.2) t1 = s.rows * ceil8 s.cols := by
    simp [commandSteps, hpd, hpk, hcols, hrows]
  rw [hdsteps] at ht1 hdither
  rw [hpsteps] at ht2 hpack
  exact ⟨_, _, _, t1, _, t2, exec_staged hi hb hl, (engineRun_add hdither).trans hpack, exec_staged hdi hb hl, ht1,
    hidle1, exec_staged hpi hidle1 hl1, ht2, hidle2, rfl⟩

end Sys2Proof.Machine

/-! ## The errors, what raises each, and what they leave alone (spec/60_exceptions.md R220 to R228) -/

namespace Sys2Proof.Machine

variable {s t : State} {addr : BusAddr} {d : Word} {k : ErrKind}

/-! ### The error flags under each operation (R27) -/

section Flags

variable (s : State) (k : ErrKind)

/-- The flags are bits of STATUS alone. -/
theorem State.errFlag_congr {s t : State} (h : t.status = s.status) (k : ErrKind) : t.errFlag k = s.errFlag k :=
  congrArg (·.getLsbD k.code) h

@[simp] theorem State.errFlag_setReply (r : BusReply) : (s.setReply r).errFlag k = s.errFlag k := rfl
@[simp] theorem State.errFlag_setActcmd (w : Word) : (s.setActcmd w).errFlag k = s.errFlag k := rfl
@[simp] theorem State.errFlag_setCursor (x y : Word) : (s.setCursor x y).errFlag k = s.errFlag k := rfl
@[simp] theorem State.errFlag_latchPack : s.latchPack.errFlag k = s.errFlag k := rfl
@[simp] theorem State.errFlag_clearRegisters : s.clearRegisters.errFlag k = false := BitVec.getLsbD_zero

/-- A refusal sets its own flag and keeps the others. -/
@[simp] theorem State.errFlag_raise (k' : ErrKind) (info : ErrInfo) :
    (s.raise k' info).errFlag k = (decide (k = k') || s.errFlag k) :=
  (State.errFlag_congr (t := s.raise k' info) (s := s.setErr k') (s.raise_status k' info) k).trans
    (s.errFlag_setErr k' k)

/-- The host's return from a refusal sets no flag. -/
theorem State.errFlag_acknowledge (h : (s.acknowledge d).errFlag k = true) : s.errFlag k = true := by
  rw [State.errFlag, State.getLsbD_acknowledge, Bool.and_eq_true] at h
  exact h.1

@[simp] theorem State.errFlag_begin (w : Word) : (s.begin w).errFlag k = s.errFlag k := by
  simp only [State.begin]; cases hasPack w <;> simp

@[simp] theorem errFlag_complete : (complete s).errFlag k = s.errFlag k := by simp [complete]

@[simp] theorem errFlag_phaseEnd : (phaseEnd s).errFlag k = s.errFlag k := by
  rcases phaseEnd_cases s with ⟨-, h⟩ | ⟨-, -, h⟩ | ⟨-, -, h⟩ | ⟨-, h⟩ | ⟨-, h⟩ <;> simp [h]

@[simp] theorem State.errFlag_advance (lim : Nat) : (s.advance lim).errFlag k = s.errFlag k := by
  rw [State.advance_frame, State.errFlag_setCursor]

end Flags

/-- The engine raises nothing and clears no error (R220). -/
theorem engineStep_errFlag (h : engineStep s = .next t) (k : ErrKind) : t.errFlag k = s.errFlag k := by
  cases hb : s.busy with
  | false =>
    rw [engineStep_idle hb] at h
    cases h
    rfl
  | true =>
    obtain ⟨-, u, hu, ht⟩ := engineStep_busy_cases hb h
    have hu : u.errFlag k = s.errFlag k := by
      obtain ⟨_, _, _, rfl⟩ := phaseWork_frame hu
      rfl
    rcases ht with ⟨-, rfl, -⟩ | ⟨-, rfl⟩
    · exact (u.errFlag_advance k s.limit).trans hu
    · exact (errFlag_phaseEnd u k).trans hu

/-! ### The refusals, field by field (R220, R229) -/

/-- The refusal of a bus access, with STATUS as a mask. -/
theorem State.raise_access_mask (s : State) (k : ErrKind) (a : BusAddr) :
    s.raise k (.access a) = { s with erraddr := a.setWidth 32, status := s.status ||| k.mask } := by
  rw [State.raise_access_eq, withBit_code]

theorem refuseRead_mask (k : ErrKind) (addr : BusAddr) (s : State) : refuseRead k addr s = { s with
    erraddr := addr.setWidth 32, status := s.status ||| k.mask, reply := some (.read .err 0#32) } := by
  rw [refuseRead, State.raise_access_mask]
  rfl

theorem refuseWrite_mask (k : ErrKind) (addr : BusAddr) (s : State) : refuseWrite k addr s = { s with
    erraddr := addr.setWidth 32, status := s.status ||| k.mask, reply := some (.write .err) } := by
  rw [refuseWrite, State.raise_access_mask]
  rfl

/-- A write of CMD is answered OK, whatever becomes of the command (R66, R220). -/
theorem hostWrite_cmd_reply (w : Word) (s : State) :
    ∃ t, hostWrite (regAddr .cmd) w s = .next t ∧ t.reply = some (.write .ok) := by
  obtain ⟨u, hu⟩ := command_next w s
  exact ⟨answerWrite u, (hostWrite_regAddr .cmd w s).trans (congrArg (mapNext answerWrite) hu), rfl⟩

/-- Settles O10: the refusals as masks; the responses; and the engine, which raises nothing. -/
theorem raisingAnErrorWritesFlagAndCaptureOnly : Obligations.RaisingAnErrorWritesFlagAndCaptureOnly := by
  refine ⟨fun s w a => ⟨?_, ?_, ?_, ?_, ?_, fun _ => ⟨rfl, rfl⟩, hostWrite_cmd_reply w s⟩,
    fun s t k h => engineStep_errFlag h k⟩
  · exact s.raise_command_mask .dim w
  · exact s.raise_command_mask .cmd w
  · exact s.raise_command_mask .busy w
  · exact s.raise_access_mask .busy a
  · exact s.raise_access_mask .addr a

/-- Settles O12: the decoder's refusal while idle raises CmdError, whatever its reason. -/
theorem illegalWordWhileIdleSetsErrCmd : Obligations.IllegalWordWhileIdleSetsErrCmd := by
  intro s w e hd hb
  have hraise : command w s = .next (s.raise .cmd (.command w)) := by
    rw [command, hd, illegalCommand, if_neg (ne_true_of_eq_false hb)]
  rw [hraise, State.raise_command_mask]
  rfl

/-! ### What makes a transaction raise an error (R221 to R224) -/

/-- Error `k` is raised from `s` to `t`: its flag turns from 0 to 1. -/
def Raised (k : ErrKind) (s t : State) : Prop := s.errFlag k = false ∧ t.errFlag k = true

theorem Raised.not_of_eq (h : t.errFlag k = s.errFlag k) : ¬ Raised k s t := by
  rintro ⟨hs, ht⟩
  exact absurd (ht.symm.trans (h.trans hs)) (by decide)

/-- A refusal raises its own error only. -/
theorem Raised.eq_of_raise {k' : ErrKind} {info : ErrInfo} (h : Raised k s (s.raise k' info)) : k = k' := by
  obtain ⟨hs, ht⟩ := h
  simpa [hs] using ht

theorem Raised.eq_of_refuseRead {k' : ErrKind} (h : Raised k s (refuseRead k' addr s)) : k = k' :=
  Raised.eq_of_raise (info := .access addr) h

theorem Raised.eq_of_refuseWrite {k' : ErrKind} (h : Raised k s (refuseWrite k' addr s)) : k = k' :=
  Raised.eq_of_raise (info := .access addr) h

/-- A read raises AddrError at an unmapped address, and BusyError while a command runs (R61). -/
theorem hostRead_raised (h : Raised k s (hostRead addr s)) :
    (k = .addr ∧ addrTarget s.maxpix addr = none) ∨ k = .busy := by
  rcases hostRead_cases addr s with ⟨data, he⟩ | ⟨hnone, he⟩ | ⟨-, he⟩ <;> rw [he] at h
  · exact absurd h (Raised.not_of_eq rfl)
  · exact .inl ⟨h.eq_of_refuseRead, hnone⟩
  · exact .inr h.eq_of_refuseRead

/-- The causes of each error of a write of `d` at `addr` (R221 to R224). -/
inductive WriteError (addr : BusAddr) (d : Word) (s : State) : ErrKind → Prop
  | addr (hnone : addrTarget s.maxpix addr = none) : WriteError addr d s .addr
  | busy {w : Target} (hmapped : addrTarget s.maxpix addr = some w) (hb : s.busy = true) : WriteError addr d s .busy
  | cmd {e : DecodeError} (hcmd : addr = regAddr .cmd) (hb : s.busy = false) (hd : decode d = .error e) :
      WriteError addr d s .cmd
  | dim {i : Instr} (hcmd : addr = regAddr .cmd) (hb : s.busy = false) (hd : d = encode i) (hi : i ∈ stagedInstrs)
      (hl : s.frameLegal = false) : WriteError addr d s .dim

/-- The error of the first check that fails, in the order of R62 and R175: the address, the lock, the word, the
frame. -/
def firstWriteError (addr : BusAddr) (d : Word) (s : State) : ErrKind :=
  if (addrTarget s.maxpix addr).isNone then .addr
  else if s.busy then .busy
  else if (decode d).isOk then .dim
  else .cmd

/-- The causes exclude one another: each is that of the first check that fails. -/
theorem WriteError.eq_first (h : WriteError addr d s k) : k = firstWriteError addr d s := by
  unfold firstWriteError
  cases h with
  | addr hnone => simp [hnone]
  | busy hmapped hb => simp [hmapped, hb]
  | cmd hcmd hb hd => simp [hcmd, addrTarget_regAddr, hb, hd, Except.isOk, Except.toBool]
  | dim hcmd hb hd hi hl =>
    simp [hcmd, addrTarget_regAddr, hb, decode_eq_ok_iff.mpr hd, Except.isOk, Except.toBool]

/-- A command either has a stage or is one of the two system commands (R93). -/
theorem eq_nop_or_eq_srst_or_staged (i : Instr) : i = .nop ∨ i = .srst ∨ i ∈ stagedInstrs := by
  cases i <;> decide

/-- A command raises BusyError while another runs, and DimError on an illegal frame if it has a stage; `SRST` and an
idle `NOP` raise nothing (R221, R223). -/
theorem exec_raised {i : Instr} (h : exec i s = .next t) (hk : Raised k s t) :
    WriteError (regAddr .cmd) (encode i) s k := by
  by_cases hsrst : i = .srst
  · subst hsrst
    cases h
    exact absurd (s.errFlag_clearRegisters k) (ne_false_of_eq_true hk.2)
  cases hb : s.busy with
  | true =>
    rw [exec_busy hsrst hb] at h
    cases h
    obtain rfl := hk.eq_of_raise
    exact .busy (addrTarget_regAddr _ _) hb
  | false =>
    rcases eq_nop_or_eq_srst_or_staged i with rfl | hi | hi
    · rw [exec_nop_idle hb] at h
      cases h
      exact absurd hk (Raised.not_of_eq (by simp))
    · exact absurd hi hsrst
    · cases hl : s.frameLegal with
      | true =>
        rw [exec_staged hi hb hl] at h
        cases h
        exact absurd hk (Raised.not_of_eq (s.errFlag_begin k _))
      | false =>
        rw [exec_illegalFrame hi hb hl] at h
        cases h
        obtain rfl := hk.eq_of_raise
        exact .dim rfl hb rfl hi hl

/-- A word written to CMD raises its command's error, or BusyError or CmdError if it is none (R175, R222). -/
theorem command_raised (h : command d s = .next t) (hk : Raised k s t) : WriteError (regAddr .cmd) d s k := by
  cases hd : decode d with
  | ok i =>
    rw [command_of_decode hd] at h
    rw [eq_encode_of_decode hd]
    exact exec_raised h hk
  | error e =>
    rw [command, hd] at h
    cases h
    unfold illegalCommand at hk
    split at hk
    · obtain rfl := hk.eq_of_raise
      exact .busy (addrTarget_regAddr _ _) ‹_›
    · obtain rfl := hk.eq_of_raise
      exact .cmd rfl (eq_false_of_ne_true ‹_›) hd

/-- A locked write of anything but STATUS raises BusyError at most (R70). -/
theorem lockedWrite_raised {u : State} (hu : u.status = s.status) (hk : Raised k s (lockedWrite addr u s)) :
    k = .busy ∧ s.busy = true := by
  rcases lockedWrite_cases addr u s with ⟨hb, he⟩ | ⟨-, he⟩ <;> rw [he] at hk
  · exact ⟨hk.eq_of_refuseWrite, hb⟩
  · exact absurd hk (Raised.not_of_eq (State.errFlag_congr hu k))

/-- Whatever error a write raises, one of the causes holds (R62, R221 to R224). -/
theorem hostWrite_raised (h : hostWrite addr d s = .next t) (hk : Raised k s t) : WriteError addr d s k := by
  have locked : ∀ {u : State} {w : Target}, addrTarget s.maxpix addr = some w →
      Raised k s (lockedWrite addr u s) → u.status = s.status → WriteError addr d s k := fun hw hk hu => by
    obtain ⟨rfl, hb⟩ := lockedWrite_raised hu hk
    exact .busy hw hb
  unfold hostWrite at h
  split at h
  case h_1 hnone =>
    cases h
    obtain rfl := Raised.eq_of_refuseWrite hk
    exact .addr hnone
  case h_2 r hr =>
    cases r
    case cmd =>
      obtain ⟨u, hu, rfl⟩ := mapNext_eq_next h
      rw [eq_regAddr_of_addrTarget hr]
      exact command_raised hu hk
    case status =>
      cases h
      exact absurd (s.errFlag_acknowledge k hk.2) (ne_true_of_eq_false hk.1)
    case width | height => cases h; exact locked hr hk rfl
    all_goals cases h; exact absurd hk (Raised.not_of_eq rfl)
  all_goals cases h; exact locked ‹_› hk rfl

/-! ### DimError (R221) -/

/-- DimError is raised by the write of a command with a stage, while idle and on an illegal frame, and by no other
event. -/
theorem runEvent_raised_dim {e : Event} (h : runEvent e s = .next t) (hk : Raised .dim s t) :
    s.busy = false ∧ s.frameLegal = false ∧ ∃ i ∈ stagedInstrs, e = .hostWrite (regAddr .cmd) (encode i) := by
  have no_read : ∀ a, ¬ Raised .dim s (hostRead a s) := fun a hr => by
    rcases hostRead_raised hr with ⟨h, -⟩ | h <;> cases h
  cases e with
  | hostRead a => cases h; exact absurd hk (no_read a)
  | hostWrite a d =>
    cases hostWrite_raised h hk with
    | dim hcmd hb hd hi hl => exact ⟨hb, hl, _, hi, by rw [hcmd, hd]⟩
  | platformReset =>
    cases h
    exact absurd (s.errFlag_clearRegisters .dim) (ne_false_of_eq_true hk.2)
  | engineTurn => exact absurd hk (Raised.not_of_eq (engineStep_errFlag h .dim))
  | wait =>
    simp only [runEvent] at h
    split at h
    · obtain ⟨u, hu, rfl⟩ := mapNext_eq_next h
      exact absurd hk (Raised.not_of_eq (engineStep_errFlag hu .dim))
    · cases h; exact absurd hk (no_read _)

/-- `NOP` keeps every flag but ERR_BUSY, in every state (R177). -/
theorem exec_nop_errFlag (hk : k ≠ .busy) (s : State) :
    ∃ t, exec .nop s = .next t ∧ t.errFlag k = s.errFlag k := by
  cases hb : s.busy with
  | true => exact ⟨_, exec_busy nofun hb, by simp [hk]⟩
  | false => exact ⟨_, exec_nop_idle hb, by simp⟩

/-- Settles O11: acceptance and refusal by the frame, the dimension registers' own writes, the system commands, and
every event by `runEvent_raised_dim`. -/
theorem dimErrorComesFromStagedCommandsOnly : Obligations.DimErrorComesFromStagedCommandsOnly := by
  refine ⟨fun s i hi hb => ⟨fun hillegal => ?refused, fun hlegal => ?accepted⟩, fun s d hb => ?dimensions,
    fun s => ?system, fun s t e h hs ht => ?events⟩
  case refused =>
    rw [exec_illegalFrame hi hb (s.frameLegal_eq_false_iff.mpr hillegal), State.raise_command_mask]
    rfl
  case accepted =>
    rw [← s.frameLegal_eq_false_iff, Bool.not_eq_false] at hlegal
    exact ⟨_, exec_staged hi hb hlegal, s.errFlag_begin _ _, by rw [State.begin_eq]⟩
  case dimensions =>
    rw [hostWrite_regAddr, hostWrite_regAddr]
    exact ⟨congrArg Host.Outcome.next (lockedWrite_idle hb _), congrArg Host.Outcome.next (lockedWrite_idle hb _)⟩
  case system =>
    obtain ⟨t, ht, hflag⟩ := exec_nop_errFlag (k := .dim) nofun s
    exact ⟨t, s.clearRegisters, ht, rfl, hflag, s.errFlag_clearRegisters _⟩
  case events =>
    obtain ⟨hb, hl, hevent⟩ := runEvent_raised_dim h ⟨hs, ht⟩
    exact ⟨hb, s.frameLegal_eq_false_iff.mp hl, hevent⟩

/-! ### AddrError (R224) -/

/-- Seventeen words of region 0 are registers (R38). -/
theorem regAt_eq_none_iff (off : Nat) : regAt off = none ↔ 17 ≤ off / 4 := by
  unfold regAt
  generalize off / 4 = n
  split
  case h_18 => simp; grind
  all_goals simp

/-- The addresses that name nothing: unaligned, or beyond what their region holds (R61 to R64, R224). -/
theorem addrTarget_eq_none_iff {m region off : Nat} (hregion : region = addr.toNat / 2 ^ 24)
    (hoff : off = addr.toNat % 2 ^ 24) :
    addrTarget m addr = none ↔ addr.toNat % 4 ≠ 0 ∨ 5 ≤ region ∨ (region = 0 ∧ 0x40 < off) ∨
      (1 ≤ region ∧ region ≤ 3 ∧ m ≤ off / 4) ∨ (region = 4 ∧ m / 4 ≤ off / 4) := by
  obtain ⟨-, hidx, hreg, hlow⟩ := busAddr_fields addr
  rw [← hoff] at hidx hlow
  rw [← hregion] at hreg
  simp only [addrTarget, ne_eq, busAddr_aligned_iff, hidx, hreg, hlow]
  by_cases halign : addr.toNat % 4 = 0
  · rw [if_neg (not_not.mpr halign)]
    have h40 : 0x40 < off ↔ 17 ≤ off / 4 := by omega
    rw [h40]
    split
    case h_6 =>
      have hbeyond : 5 ≤ region := by grind
      simp [hbeyond]
    all_goals simp [regAt_eq_none_iff, halign]
  · simp [halign]

/-- Settles O13: the listed addresses are those that name nothing, which are refused; at any other address neither
transaction has AddrError's cause. -/
theorem addrErrorOnExactlyTheUnmappedAddresses : Obligations.AddrErrorOnExactlyTheUnmappedAddresses := by
  intro s addr d region off hregion hoff
  rw [← addrTarget_eq_none_iff hregion hoff]
  refine ⟨fun hnone => ⟨?read, ?write⟩, fun hmapped hs => ⟨?noRead, ?noWrite⟩⟩
  case read =>
    rw [hostRead, hnone]
    exact refuseRead_mask .addr addr s
  case write =>
    rw [hostWrite, hnone]
    exact congrArg Host.Outcome.next (refuseWrite_mask .addr addr s)
  case noRead =>
    refine eq_false_of_ne_true fun ht => ?_
    rcases hostRead_raised ⟨hs, ht⟩ with ⟨-, hnone⟩ | h
    · exact hmapped hnone
    · cases h
  case noWrite =>
    obtain ⟨t, h⟩ := hostWrite_next addr d s
    refine ⟨t, h, eq_false_of_ne_true fun ht => ?_⟩
    cases hostWrite_raised h ⟨hs, ht⟩ with
    | addr hnone => exact hmapped hnone

/-! ### One error at most (R228) -/

/-- A read raises one error at most. -/
theorem hostRead_raised_unique {k' : ErrKind} (h : Raised k s (hostRead addr s)) (h' : Raised k' s (hostRead addr s)) :
    k = k' := by
  rcases hostRead_cases addr s with ⟨data, he⟩ | ⟨-, he⟩ | ⟨-, he⟩ <;> rw [he] at h h'
  · exact absurd h (Raised.not_of_eq rfl)
  all_goals exact h.eq_of_refuseRead.trans h'.eq_of_refuseRead.symm

/-- Settles O14: a read is refused in one way, and a write raises the error of its first failing check. -/
theorem oneTransactionRaisesAtMostOneError : Obligations.OneTransactionRaisesAtMostOneError := by
  intro s addr d k k'
  obtain ⟨t, h⟩ := hostWrite_next addr d s
  refine ⟨fun hs hs' ht ht' => hostRead_raised_unique ⟨hs, ht⟩ ⟨hs', ht'⟩, t, h, fun hs hs' ht ht' => ?_⟩
  exact (hostWrite_raised h ⟨hs, ht⟩).eq_first.trans (hostWrite_raised h ⟨hs', ht'⟩).eq_first.symm

end Sys2Proof.Machine

/-! ## The platform's Reset and `SRST` (spec/70_reset_and_hazards.md R250, R251, spec/93_implementation_defined.md U1) -/

namespace Sys2Proof.Machine

/-! ### The registers, which both resets clear (R250) -/

/-- The lookup port and CAP included, a register reads what it reads after `SRST`: none depends on a memory. -/
theorem regRead_hardReset (r : Reg) (s : State) : regRead r (hardReset s) = regRead r s.clearRegisters := by
  cases r <;> rfl

@[simp] theorem State.irq_clearRegisters (s : State) : s.clearRegisters.irq = false := by simp [State.irq]

/-- `irq` is a function of STATUS and IEN, so it falls with `SRST`'s (R46). -/
@[simp] theorem irq_hardReset (s : State) : (hardReset s).irq = false := s.irq_clearRegisters

@[simp] theorem busy_hardReset (s : State) : (hardReset s).busy = false := s.busy_clearRegisters

/-! ### The memories, which Reset frees and `SRST` keeps (R251, U1) -/

section Memories

variable (s : State) (i : Nat)

@[simp] theorem imemAt_hardReset : (hardReset s).imemAt i = Config.freeImem (s.epoch + 1) i := rfl
@[simp] theorem wbufCell_hardReset : (hardReset s).wbufCell i = Config.freeWbuf (s.epoch + 1) i := rfl
@[simp] theorem bmemAt_hardReset : (hardReset s).bmemAt i = Config.freeBmem (s.epoch + 1) i := rfl
@[simp] theorem pmemAt_hardReset : (hardReset s).pmemAt i = Config.freePmem (s.epoch + 1) i := rfl

@[simp] theorem State.imemAt_clearRegisters : s.clearRegisters.imemAt i = s.imemAt i := rfl
@[simp] theorem State.wbufCell_clearRegisters : s.clearRegisters.wbufCell i = s.wbufCell i := rfl
@[simp] theorem State.bmemAt_clearRegisters : s.clearRegisters.bmemAt i = s.bmemAt i := rfl
@[simp] theorem State.pmemAt_clearRegisters : s.clearRegisters.pmemAt i = s.pmemAt i := rfl

end Memories

/-- Settles O26: both resets clear the same registers, so the engine is idle; Reset lists no memory element any more,
so each reads as the new epoch's free value. -/
theorem platformResetClearsRegistersAndFreesMemories :
    Obligations.PlatformResetClearsRegistersAndFreesMemories := by
  intro s
  refine ⟨hardReset s, s.clearRegisters, rfl, rfl, fun r => regRead_hardReset r s, ?status, irq_hardReset s,
    engineStep_idle (busy_hardReset s), ?pending, ?capacity, fun i => ?memories⟩
  case status => exact s.clearRegisters_status
  case pending => exact s.clearRegisters_pending
  case capacity => exact s.clearRegisters_capQuads
  case memories =>
    exact ⟨imemAt_hardReset s i, wbufCell_hardReset s i, bmemAt_hardReset s i, pmemAt_hardReset s i,
      s.imemAt_clearRegisters i, s.wbufCell_clearRegisters i, s.bmemAt_clearRegisters i, s.pmemAt_clearRegisters i⟩

end Sys2Proof.Machine
